-- ==== Sys2Proof/Word.lean ====
section
/-! DEFINITION. The plainest types of the model: bytes, tables of fixed size, the index types of the spec's Conventions, and the
two productions. Nothing here knows a rule of the device. -/

namespace Sys2Proof

/-- One byte of a frame, message or record (chapter 12). -/
abbrev Byte := BitVec 8

/-- A table of exactly `n` like things: plain data (a list) with its length. -/
structure Tbl (n : Nat) (α : Type) where
  cells : List α
  size : cells.length = n
deriving DecidableEq, Repr

namespace Tbl

/-- Every cell holds `a`. -/
def replicate (n : Nat) (a : α) : Tbl n α := ⟨List.replicate n a, by simp⟩

/-- The cell at `i`. -/
def get (t : Tbl n α) (i : Fin n) : α := t.cells[i.val]'(by rw [t.size]; exact i.isLt)

/-- The table with the cell at `i` replaced. -/
def set (t : Tbl n α) (i : Fin n) (a : α) : Tbl n α := ⟨t.cells.set i.val a, by simp [t.size]⟩

/-- The table with the cell at `i` changed by `f`. -/
def modify (t : Tbl n α) (i : Fin n) (f : α → α) : Tbl n α := t.set i (f (t.get i))

/-- The table whose cell at `i` is `f i`. -/
def build (n : Nat) (f : Fin n → α) : Tbl n α := ⟨(List.finRange n).map f, by simp⟩

/-- Every cell changed by `f`. -/
def map (t : Tbl n α) (f : α → β) : Tbl n β := ⟨t.cells.map f, by simp [t.size]⟩

end Tbl

/-- The indices 0 to n-1 in ascending order. -/
def indices (n : Nat) : List (Fin n) := List.finRange n

/-! ## Index types (00_scope.md, Conventions) -/

abbrev SourceId := Fin 128
abbrev DestId := Fin 64
abbrev PortId := Fin 96
abbrev InputId := Fin 40
abbrev StageId := Fin 4
abbrev BlockId := Fin 16
abbrev GroupId := Fin 16
abbrev CircuitId := Fin 16
abbrev SalvoId := Fin 48
abbrev GpiId := Fin 16
abbrev GpoId := Fin 16
abbrev LoopId := Fin 4
/-- A panel address 1-16, held as its index 0-15. -/
abbrev AddrIx := Fin 16
abbrev KeyId := Fin 48
abbrev SlotId := Fin 4
abbrev LampId := Fin 52
abbrev CardId := Fin 7
abbrev TalkId := Fin 128
abbrev ListenId := Fin 64

/-- The panel address 1-16 that an index stands for. -/
def addressOf (a : AddrIx) : Nat := a.val + 1

/-- A (loop, address) identity. -/
structure PanelId where
  loop : LoopId
  addr : AddrIx
deriving DecidableEq, Repr

/-- A table with one cell for each (loop, address). -/
abbrev PanelTbl (α : Type) := Tbl 4 (Tbl 16 α)

/-- The cell of one (loop, address). -/
def Tbl.getP (t : PanelTbl α) (p : PanelId) : α := (t.get p.loop).get p.addr

/-- The table with the cell of one (loop, address) replaced. -/
def Tbl.setP (t : PanelTbl α) (p : PanelId) (a : α) : PanelTbl α := t.set p.loop ((t.get p.loop).set p.addr a)

/-- Every (loop, address), in ascending order. -/
def allPanels : List PanelId := (indices 4).flatMap fun l => (indices 16).map fun a => ⟨l, a⟩

/-- One of the two productions. -/
inductive Prod2 where
  | a
  | b
deriving DecidableEq, Repr

/-- A, B, or both: BOTH of an attribute, SHARED of a panel, COMBINED of a view. -/
inductive Prod3 where
  | a
  | b
  | both
deriving DecidableEq, Repr

/-- Whether a production is, or is included in, a three-valued production. -/
def Prod3.includes : Prod3 → Prod2 → Bool
  | .a, .a => true
  | .b, .b => true
  | .both, _ => true
  | _, _ => false

/-- The two productions in order. -/
def allProds : List Prod2 := [.a, .b]

/-- One thing for each production. -/
structure Pair (α : Type) where
  a : α
  b : α
deriving DecidableEq, Repr

/-- The thing of one production. -/
def Pair.get (x : Pair α) : Prod2 → α
  | .a => x.a
  | .b => x.b

/-- The pair with the thing of one production replaced. -/
def Pair.set (x : Pair α) : Prod2 → α → Pair α
  | .a, v => { x with a := v }
  | .b, v => { x with b := v }

end Sys2Proof
end

