-- ==== Sys2Proof/Config.lean ====
section
/-! DEFINITION. The fixed numbers of the device (00_scope.md, Global numbers). Times are in reference clocks of 24.000 MHz. The spec
leaves no value of a running instruction undefined, so no opaque free value stands here. -/

namespace Sys2Proof.Config

/-- Reference clocks in one microsecond. -/
def clocksPerMicrosecond : Nat := 24
/-- Reference clocks in one millisecond. -/
def clocksPerMs : Nat := 24000
/-- Milliseconds as reference clocks. -/
def ms (n : Nat) : Nat := n * clocksPerMs

/-- Control link and mixer port inter-byte gap limit, 2 ms (R56, R187). -/
def frameGap : Nat := ms 2
/-- Mixer stale time, 500 ms (R63). -/
def staleTime : Nat := ms 500
/-- Frame loss time, 100 ms (R22). -/
def frameLoss : Nat := ms 100
/-- The least period accepted as a free-run period, 16 ms (R22). -/
def periodMin : Nat := ms 16
/-- The greatest period accepted as a free-run period, 42 ms (R22). -/
def periodMax : Nat := ms 42
/-- The default free-run period, 40 ms (R22). -/
def periodDefault : Nat := ms 40
/-- Lock grace after LOST, 30 s (R35). -/
def lockGrace : Nat := ms 30000
/-- Roster hold after LOST, 30 s (R118). -/
def rosterHold : Nat := ms 30000
/-- Fabric reply timeout, 2 ms (R39). -/
def fabricReply : Nat := ms 2
/-- Absent card probe interval, 1 s (R47). -/
def probeInterval : Nat := ms 1000
/-- Poll reply window, 3 ms, 72,000 reference clocks (R96). -/
def replyWindow : Nat := 72000
/-- The wait after a loop's break, 100 ms (R104). -/
def startingWait : Nat := ms 100
/-- The listen of a rate search, 200 ms (R105). -/
def searchListen : Nat := ms 200
/-- The pause before a new search attempt, 1 s (R106). -/
def searchRetry : Nat := ms 1000
/-- The restart timer of LINE_FAULT, 1 s (R107). -/
def lineRestart : Nat := ms 1000
/-- The GPI debounce time after a hard reset, in ms (R164). -/
def debounceDefault : Nat := 20
/-- The latch window after a hard reset, in ms (R149). -/
def latchDefault : Nat := 250
/-- The thresholds after a hard reset (R14). -/
def thresholdDefault : Nat := 52
/-- The share of a whole production output (00_scope.md, Proportions). -/
def whole : Nat := 1024

/-- Room in the request queue (R190). -/
def requestRoom : Nat := 4
/-- Room in the immediate reply list (R193). -/
def immediateRoom : Nat := 4
/-- Room in the notice queue (R195). -/
def noticeRoom : Nat := 32
/-- Field bytes of one notice part (R204). -/
def partBytes : Nat := 247
/-- Items of one TALK notice (R160). -/
def talkItemsRoom : Nat := 128
/-- Talkers, and waiting entries, of one listener (R136). -/
def listRoom : Nat := 8
/-- The saturation value of the device's counts (R56, R111, R195). -/
def countTop : Nat := 65535
/-- Missed polls to SILENT (R116). -/
def missesToSilent : Nat := 3
/-- Missed polls to LOST (R115, R117). -/
def missesToLost : Nat := 10
/-- Exchanges of one visit under the MORE flag (R99). -/
def moreLimit : Nat := 6
/-- Lamp changes of one POLL (R101). -/
def pollLamps : Nat := 12
/-- Characters of the reply buffer (R94). -/
def bufferRoom : Nat := 64

/-- The sync byte of a control link or mixer frame (12.1). -/
def syncByte : Byte := 0xE7

end Sys2Proof.Config
end

