-- ==== Sys2Proof/Syntax.lean ====
section
/-! DEFINITION. The commands of the device: one constructor of Instr for each row of spec/opcode_table.json. A field that comes over a
wire is held as received (a Nat that may lie out of range, for the owner to judge, R202); a field that only names a part of the
device itself (a loop, a card, an input) has the index type of that part. -/

namespace Sys2Proof

/-- A byte as a UART receives it: its value, and whether its stop bit was 1 (R56, R188). -/
structure RxByte where
  value : Byte
  stopOk : Bool
deriving DecidableEq, Repr

/-- A loop character as the receiver samples it (R90, R92): the three samples of each of its 11 bits, bit 0 the first on the line. -/
structure LineChar where
  early : BitVec 11
  centre : BitVec 11
  late : BitVec 11
deriving DecidableEq, Repr

/-- Bytes received back to back on the fabric line: whether the line had idled for more than 2 byte times before the first of them, and
the bytes (R205). A byte has no stop bit here: no rule says what the fabric receiver does with one whose stop bit is 0, and the model takes every
byte by its eight data bits alone (log entry 3, DESIGN CHOICE). -/
structure LineBytes where
  afterGap : Bool
  bytes : List Byte
deriving DecidableEq, Repr

/-- A target as received: kind (0 PORT, 1 GROUP, 2 FOLLOW, 3 IFB), then index (12.2). -/
structure RawTarget where
  kind : Nat
  index : Nat
deriving DecidableEq, Repr

/-- A key assignment of SET_KEYMAP as received: key, function, the two argument bytes, the two flags (12.3). -/
structure RawKey where
  key : Nat
  function : Nat
  argHi : Nat
  argLo : Nat
  noLatch : Bool
  priority : Bool
deriving DecidableEq, Repr

/-- A salvo entry as received: destination, source (12.3). -/
structure RawEntry where
  dest : Nat
  source : Nat
deriving DecidableEq, Repr

/-- A GPI mapping as received (R164, R203): NONE 0, FORCE_RED 1, TALK 2, ARM 3, or another kind byte. -/
inductive RawGpiMap where
  | unmapped
  | forceRed (source production : Nat)
  | talk (port : Nat) (target : RawTarget)
  | arm (dest : Nat)
  | other (kind : Nat)
deriving DecidableEq, Repr

/-- A GPO mapping as received (R171, R203): NONE 0, TALLY 1, TALKING 2, FAULT 3, FREE_RUN 4, or another kind byte. -/
inductive RawGpoMap where
  | unmapped
  | tally (source colours view : Nat)
  | talking (port : Nat)
  | fault
  | freeRun
  | other (kind : Nat)
deriving DecidableEq, Repr

/-- A mixer reference as received: kind (0 INPUT, 1 STAGE, 2 BLACK, 3 MATTE), index (12.5). -/
structure RawRef where
  kind : Nat
  index : Nat
deriving DecidableEq, Repr

/-- The body of a mixer STAGE record as received (12.5). -/
structure RawStage where
  stage : Nat
  aRef : RawRef
  bRef : RawRef
  position : Nat
  key1 : RawRef
  gain1 : Nat
  key2 : RawRef
  gain2 : Nat
deriving DecidableEq, Repr

/-- A key event of a KEYS reply: the key number, and whether it is DOWN (12.6). -/
structure KeyEvent where
  key : Nat
  down : Bool
deriving DecidableEq, Repr

/-- A request of the host with its fields as received (section 11.3, 12.3, R203). An optional field is one that a presence byte marks;
an optional index (a port or none, a page or none) is its byte, with none as 255. -/
inductive Request where
  | setClass (block code : Nat)
  | setCamera (source port : Nat)
  | setInput (production input kind index : Nat)
  | setDest (dest : Nat) (production record arm : Option Nat)
  | setThreshold (production : Nat) (air preview : Option Nat)
  | setLoop (loop : Nat) (enable rate trim : Option Nat)
  | setKeymap (loop address : Nat) (production port : Option Nat) (keys : List RawKey)
  | setSlots (loop address : Nat) (slot0 slot1 slot2 slot3 : Option Nat)
  | setGroup (group : Nat) (members : List Nat)
  | setIfb (circuit talent program dim : Nat)
  | setLatch (window : Nat)
  | setGpi (input : Nat) (mapping : Option RawGpiMap) (debounce : Option Nat)
  | setGpo (output : Nat) (mapping : RawGpoMap)
  | setFilter (kinds : BitVec 16)
  | take (dest source : Nat) (forced : Bool)
  | lock (dest : Nat)
  | unlock (dest : Nat) (forced : Bool)
  | talk (path action port : Nat) (target : RawTarget)
  | salvoWrite (page : Nat) (entries : List RawEntry)
  | salvoErase (page : Nat)
  | salvoRecall (page : Nat)
  | salvoBoot (page : Nat)
  | loopRestart (loop : Nat)
  | restart
  | readTally (view first count : Nat)
  | readDest (dest : Nat)
  | readRoster (loop part address : Nat)
  | readTalks (part first count : Nat)
  | readListener (port : Nat)
  | readSalvo (part page : Nat)
  | readStatus (part : Nat)
deriving DecidableEq, Repr

/-- The message kind of a request, 0x01 to 0x1F in the order of the table of section 11.3 (12.1). -/
def Request.kind : Request → Nat
  | .setClass .. => 0x01
  | .setCamera .. => 0x02
  | .setInput .. => 0x03
  | .setDest .. => 0x04
  | .setThreshold .. => 0x05
  | .setLoop .. => 0x06
  | .setKeymap .. => 0x07
  | .setSlots .. => 0x08
  | .setGroup .. => 0x09
  | .setIfb .. => 0x0A
  | .setLatch .. => 0x0B
  | .setGpi .. => 0x0C
  | .setGpo .. => 0x0D
  | .setFilter .. => 0x0E
  | .take .. => 0x0F
  | .lock .. => 0x10
  | .unlock .. => 0x11
  | .talk .. => 0x12
  | .salvoWrite .. => 0x13
  | .salvoErase .. => 0x14
  | .salvoRecall .. => 0x15
  | .salvoBoot .. => 0x16
  | .loopRestart .. => 0x17
  | .restart => 0x18
  | .readTally .. => 0x19
  | .readDest .. => 0x1A
  | .readRoster .. => 0x1B
  | .readTalks .. => 0x1C
  | .readListener .. => 0x1D
  | .readSalvo .. => 0x1E
  | .readStatus .. => 0x1F

/-- The commands: one constructor for each row of spec/opcode_table.json, in the table's order. A request row carries the request's tag
and its fields; it stands for the arrival of that request's complete good frame (log entry 2). -/
inductive Instr where
  | hardReset
  | clFrameReceived (kind tag : Byte) (body : List Byte)
  | clFrameDiscarded (byte : RxByte)
  | clGapTimeout
  | clTransmitComplete
  | setClass (tag block code : Nat)
  | setCamera (tag source port : Nat)
  | setInput (tag production input kind index : Nat)
  | setDest (tag dest : Nat) (production record arm : Option Nat)
  | setThreshold (tag production : Nat) (air preview : Option Nat)
  | setLoop (tag loop : Nat) (enable rate trim : Option Nat)
  | setKeymap (tag loop address : Nat) (production port : Option Nat) (keys : List RawKey)
  | setSlots (tag loop address : Nat) (slot0 slot1 slot2 slot3 : Option Nat)
  | setGroup (tag group : Nat) (members : List Nat)
  | setIfb (tag circuit talent program dim : Nat)
  | setLatch (tag window : Nat)
  | setGpi (tag input : Nat) (mapping : Option RawGpiMap) (debounce : Option Nat)
  | setGpo (tag output : Nat) (mapping : RawGpoMap)
  | setFilter (tag : Nat) (kinds : BitVec 16)
  | take (tag dest source : Nat) (forced : Bool)
  | lock (tag dest : Nat)
  | unlock (tag dest : Nat) (forced : Bool)
  | talk (tag path action port : Nat) (target : RawTarget)
  | salvoWrite (tag page : Nat) (entries : List RawEntry)
  | salvoErase (tag page : Nat)
  | salvoRecall (tag page : Nat)
  | salvoBoot (tag page : Nat)
  | loopRestart (tag loop : Nat)
  | restart (tag : Nat)
  | readTally (tag view first count : Nat)
  | readDest (tag dest : Nat)
  | readRoster (tag loop part address : Nat)
  | readTalks (tag part first count : Nat)
  | readListener (tag port : Nat)
  | readSalvo (tag part page : Nat)
  | readStatus (tag part : Nat)
  | mixerStageRecord (port : Prod2) (tag : Byte) (record : RawStage)
  | mixerKeepRecord (port : Prod2) (tag : Byte)
  | mixerFrameDiscarded (port : Prod2) (byte : RxByte)
  | mixerGapTimeout (port : Prod2)
  | mixerStaleTimeout (port : Prod2)
  | computationComplete (production : Prod2)
  | framePulse
  | frameLossTimeout
  | freeRunPeriodExpiry
  | fabricRecordSent
  | xecho (dest actual sequence : Nat)
  | aack (port : Nat)
  | present (card kind : Nat)
  | fabricStrayRecord (bytes : LineBytes)
  | fabricReplyTimeout (card : CardId)
  | probeTimerExpiry (card : CardId)
  | poll (loop : LoopId)
  | enrol (loop : LoopId)
  | stateQuery (loop : LoopId)
  | loopMessageSent (loop : LoopId)
  | loopReplyStartBit (loop : LoopId)
  | loopReplyWindowTimeout (loop : LoopId)
  | loopReplyGapTimeout (loop : LoopId)
  | loopReplyDiscarded (loop : LoopId) (char : LineChar)
  | loopStrayCharacter (loop : LoopId) (char : LineChar)
  | ident (loop : LoopId) (kind keyCount slotCount revision : Nat)
  | keys (loop : LoopId) (more : Bool) (events : List KeyEvent)
  | stateReply (loop : LoopId) (down : BitVec 48)
  | hold (loop : LoopId)
  | quiet (loop : LoopId)
  | rosterHoldExpiry (panel : PanelId)
  | lockDeadlineExpiry (panel : PanelId)
  | latchTimerExpiry (panel : PanelId) (key : KeyId)
  | longBreak (loop : LoopId)
  | lineFaultRestartExpiry (loop : LoopId)
  | loopBreakSent (loop : LoopId)
  | startingWaitExpiry (loop : LoopId) (lineHigh : Bool)
  | rateMarkMeasured (loop : LoopId) (clocks : Nat)
  | rateSearchTimeout (loop : LoopId)
  | searchRetryExpiry (loop : LoopId)
  | searchIdleGuardMet (loop : LoopId)
  | gpiRawChange (input : GpiId)
  | gpiDebounceExpiry (input : GpiId)
  | programmingComplete (agrees : Bool)
  | startScanComplete
  | clByteReceived (byte : RxByte)
  | mixerByteReceived (port : Prod2) (byte : RxByte)
  | loopReplyCharacter (loop : LoopId) (char : LineChar)
deriving DecidableEq, Repr

end Sys2Proof
end

