-- ==== Sys2Proof/WellFormed.lean ====
section
/-! DEFINITION. What a command must be to be one that a wire can carry: every received field fits the bytes that chapter 12 gives it.
Values that fit their bytes but lie outside the owner's range are well formed; the owner answers them (R202). -/

namespace Sys2Proof

/-- A value that one byte carries. -/
abbrev fitsByte (n : Nat) : Bool := decide (n < 256)
/-- A value that two bytes carry. -/
abbrev fitsWord (n : Nat) : Bool := decide (n < 65536)
/-- An optional one-byte field. -/
def fitsOptByte : Option Nat → Bool
  | none => true
  | some n => fitsByte n
/-- An optional two-byte field. -/
def fitsOptWord : Option Nat → Bool
  | none => true
  | some n => fitsWord n

def RawTarget.wf (t : RawTarget) : Bool := fitsByte t.kind && fitsByte t.index
def RawKey.wf (k : RawKey) : Bool := fitsByte k.key && fitsByte k.function && fitsByte k.argHi && fitsByte k.argLo
def RawEntry.wf (e : RawEntry) : Bool := fitsByte e.dest && fitsByte e.source
def RawRef.wf (r : RawRef) : Bool := fitsByte r.kind && fitsByte r.index

/-- The kind bytes 0-3 are the named mappings, so another kind is 4 or above. -/
def RawGpiMap.wf : RawGpiMap → Bool
  | .unmapped => true
  | .forceRed s p => fitsByte s && fitsByte p
  | .talk p t => fitsByte p && t.wf
  | .arm d => fitsByte d
  | .other k => decide (4 ≤ k) && fitsByte k

/-- The kind bytes 0-4 are the named mappings, so another kind is 5 or above. -/
def RawGpoMap.wf : RawGpoMap → Bool
  | .unmapped => true
  | .tally s c v => fitsByte s && fitsByte c && fitsByte v
  | .talking p => fitsByte p
  | .fault => true
  | .freeRun => true
  | .other k => decide (5 ≤ k) && fitsByte k

def RawStage.wf (r : RawStage) : Bool :=
  fitsByte r.stage && r.aRef.wf && r.bRef.wf && fitsWord r.position && r.key1.wf && fitsWord r.gain1 && r.key2.wf && fitsWord r.gain2

/-- A request whose fields fit their bytes; arguments that its part or kind does not carry are 0. -/
def Request.wf : Request → Bool
  | .setClass b c => fitsByte b && fitsByte c
  | .setCamera s p => fitsByte s && fitsByte p
  | .setInput p i k x => fitsByte p && fitsByte i && fitsByte k && fitsByte x
  | .setDest d p r a => fitsByte d && fitsOptByte p && fitsOptByte r && fitsOptByte a
  | .setThreshold p a v => fitsByte p && fitsOptWord a && fitsOptWord v
  | .setLoop l e r t => fitsByte l && fitsOptByte e && fitsOptByte r && fitsOptByte t
  | .setKeymap l a p o ks => fitsByte l && fitsByte a && fitsOptByte p && fitsOptByte o && fitsByte ks.length && ks.all RawKey.wf
  | .setSlots l a s0 s1 s2 s3 => fitsByte l && fitsByte a && fitsOptByte s0 && fitsOptByte s1 && fitsOptByte s2 && fitsOptByte s3
  | .setGroup g ms => fitsByte g && fitsByte ms.length && ms.all (fun m => fitsByte m)
  | .setIfb c t p d => fitsByte c && fitsByte t && fitsByte p && fitsByte d
  | .setLatch w => fitsWord w
  | .setGpi i m d => fitsByte i && (m.map RawGpiMap.wf).getD true && fitsOptWord d
  | .setGpo o m => fitsByte o && m.wf
  | .setFilter _ => true
  | .take d s _ => fitsByte d && fitsByte s
  | .lock d => fitsByte d
  | .unlock d _ => fitsByte d
  | .talk p a n t => fitsByte p && fitsByte a && fitsByte n && t.wf
  | .salvoWrite p es => fitsByte p && fitsByte es.length && es.all RawEntry.wf
  | .salvoErase p => fitsByte p
  | .salvoRecall p => fitsByte p
  | .salvoBoot p => fitsByte p
  | .loopRestart l => fitsByte l
  | .restart => true
  | .readTally v f c => fitsByte v && fitsByte f && fitsByte c
  | .readDest d => fitsByte d
  | .readRoster l p a => fitsByte l && fitsByte p && fitsByte a && (p == 1 || p == 2 || a == 0)
  | .readTalks p f c => fitsByte p && fitsByte f && fitsByte c && (p ≤ 2 || f == 0) && (p ≤ 1 || c == 0)
  | .readListener p => fitsByte p
  | .readSalvo p n => fitsByte p && fitsByte n && (p == 0 || n == 0)
  | .readStatus p => fitsByte p

/-- The request that a request row carries, with its tag. -/
def Instr.request : Instr → Option (Nat × Request)
  | .setClass t b c => some (t, .setClass b c)
  | .setCamera t s p => some (t, .setCamera s p)
  | .setInput t p i k x => some (t, .setInput p i k x)
  | .setDest t d p r a => some (t, .setDest d p r a)
  | .setThreshold t p a v => some (t, .setThreshold p a v)
  | .setLoop t l e r m => some (t, .setLoop l e r m)
  | .setKeymap t l a p o ks => some (t, .setKeymap l a p o ks)
  | .setSlots t l a s0 s1 s2 s3 => some (t, .setSlots l a s0 s1 s2 s3)
  | .setGroup t g ms => some (t, .setGroup g ms)
  | .setIfb t c n p d => some (t, .setIfb c n p d)
  | .setLatch t w => some (t, .setLatch w)
  | .setGpi t i m d => some (t, .setGpi i m d)
  | .setGpo t o m => some (t, .setGpo o m)
  | .setFilter t ks => some (t, .setFilter ks)
  | .take t d s f => some (t, .take d s f)
  | .lock t d => some (t, .lock d)
  | .unlock t d f => some (t, .unlock d f)
  | .talk t p a n g => some (t, .talk p a n g)
  | .salvoWrite t p es => some (t, .salvoWrite p es)
  | .salvoErase t p => some (t, .salvoErase p)
  | .salvoRecall t p => some (t, .salvoRecall p)
  | .salvoBoot t p => some (t, .salvoBoot p)
  | .loopRestart t l => some (t, .loopRestart l)
  | .restart t => some (t, .restart)
  | .readTally t v f c => some (t, .readTally v f c)
  | .readDest t d => some (t, .readDest d)
  | .readRoster t l p a => some (t, .readRoster l p a)
  | .readTalks t p f c => some (t, .readTalks p f c)
  | .readListener t p => some (t, .readListener p)
  | .readSalvo t p n => some (t, .readSalvo p n)
  | .readStatus t p => some (t, .readStatus p)
  | _ => none

/-- The other rows: what their fields must satisfy to be the event the row names. -/
def Instr.wf (i : Instr) : Bool :=
  match i.request with
  | some (t, r) => fitsByte t && r.wf
  | none =>
    match i with
    | .clFrameReceived _ _ body => decide (body.length ≤ 248)
    | .mixerStageRecord _ _ r => r.wf && decide (r.stage < 4)
    | .xecho d a q => fitsByte d && fitsByte a && fitsByte q
    | .aack p => fitsByte p
    | .present c k => fitsByte c && fitsByte k
    | .ident _ k n m r => decide (k < 4) && decide (1 ≤ n) && decide (n ≤ 48) && decide (m ≤ 4) && fitsByte r
    | .keys _ _ es => decide (1 ≤ es.length) && decide (es.length ≤ 8) && es.all (fun e => decide (e.key < 48))
    | .rateMarkMeasured _ c => decide (0 < c)
    | _ => true

end Sys2Proof
end

