-- ==== Sys2Proof/Decode.lean ====
section
/-! DEFINITION. From bytes to commands. The rows of spec/opcode_table.json give no bits, so decodeTableWord answers none for every word.
What the device itself decodes stands here too: the body of a control link request (R202, 12.3, R203), a mixer frame (R57, 12.5),
and a card's record (R205, 12.7); and beside each the encoder written from the same tables. -/

namespace Sys2Proof

/-- The command that a word spells by the table's bits. No row of the table gives bits. -/
def decodeTableWord (_nbits _w : Nat) : Option Instr := none

/-- A number as one byte. -/
def byteOf (n : Nat) : Byte := BitVec.ofNat 8 n
/-- A number as two bytes, most significant first (12). -/
def word16 (n : Nat) : List Byte := [byteOf (n / 256), byteOf n]
/-- Bits as a byte, the first as bit 0 (12.2, Flags and Presence). -/
def bitsByte : List Bool → Byte
  | [] => 0#8
  | b :: bs => (if b then 1#8 else 0#8) ||| (bitsByte bs <<< 1)

/-- The sum of bytes modulo 256, as the check bytes of chapter 12 take it. -/
def byteSum : List Byte → Byte
  | [] => 0#8
  | b :: bs => b + byteSum bs

/-- The check byte that makes a run of bytes sum to 0 modulo 256. -/
def checkFor (bs : List Byte) : Byte := - byteSum bs

/-! ## Reading fields -/

/-- One byte off the front, as a number. -/
def takeByte : List Byte → Option (Nat × List Byte)
  | [] => none
  | b :: bs => some (b.toNat, bs)

/-- Two bytes off the front, as a number. -/
def takeWord : List Byte → Option (Nat × List Byte)
  | hi :: lo :: bs => some (hi.toNat * 256 + lo.toNat, bs)
  | _ => none

/-- An optional byte, read where its presence bit is set. -/
def takeOptByte (present : Bool) (bs : List Byte) : Option (Option Nat × List Byte) :=
  if present then (takeByte bs).map fun x => (some x.1, x.2) else some (none, bs)

/-- An optional two-byte number, read where its presence bit is set. -/
def takeOptWord (present : Bool) (bs : List Byte) : Option (Option Nat × List Byte) :=
  if present then (takeWord bs).map fun x => (some x.1, x.2) else some (none, bs)

/-- A target (12.2). -/
def takeTarget : List Byte → Option (RawTarget × List Byte)
  | k :: i :: bs => some (⟨k.toNat, i.toNat⟩, bs)
  | _ => none

/-- `n` one-byte entries. -/
def takeBytes : Nat → List Byte → Option (List Nat × List Byte)
  | 0, bs => some ([], bs)
  | n + 1, b :: bs => (takeBytes n bs).map fun x => (b.toNat :: x.1, x.2)
  | _ + 1, [] => none

/-- `n` key assignments of SET_KEYMAP (12.3). -/
def takeKeys : Nat → List Byte → Option (List RawKey × List Byte)
  | 0, bs => some ([], bs)
  | n + 1, k :: f :: h :: l :: g :: bs =>
    (takeKeys n bs).map fun x => (⟨k.toNat, f.toNat, h.toNat, l.toNat, g.getLsbD 0, g.getLsbD 1⟩ :: x.1, x.2)
  | _ + 1, _ => none

/-- `n` entries of SALVO_WRITE (12.3). -/
def takeEntries : Nat → List Byte → Option (List RawEntry × List Byte)
  | 0, bs => some ([], bs)
  | n + 1, d :: s :: bs => (takeEntries n bs).map fun x => (⟨d.toNat, s.toNat⟩ :: x.1, x.2)
  | _ + 1, _ => none

/-- A GPI mapping: its kind byte, then its arguments (R203). A kind byte that names no kind is taken to have no argument bytes, so that a
debounce field is read right after it (log entry 20, DESIGN CHOICE: the spec gives such a value no length). -/
def takeGpiMap : List Byte → Option (RawGpiMap × List Byte)
  | [] => none
  | k :: bs =>
    match k.toNat with
    | 0 => some (.unmapped, bs)
    | 1 => match bs with
      | s :: p :: bs => some (.forceRed s.toNat p.toNat, bs)
      | _ => none
    | 2 => match bs with
      | p :: bs => (takeTarget bs).map fun x => (.talk p.toNat x.1, x.2)
      | _ => none
    | 3 => match bs with
      | d :: bs => some (.arm d.toNat, bs)
      | _ => none
    | n => some (.other n, bs)

/-- A GPO mapping: its kind byte, then its arguments (R203); none for a kind byte that names no kind (log entry 20, DESIGN CHOICE). -/
def takeGpoMap : List Byte → Option (RawGpoMap × List Byte)
  | [] => none
  | k :: bs =>
    match k.toNat with
    | 0 => some (.unmapped, bs)
    | 1 => match bs with
      | s :: c :: v :: bs => some (.tally s.toNat c.toNat v.toNat, bs)
      | _ => none
    | 2 => match bs with
      | p :: bs => some (.talking p.toNat, bs)
      | _ => none
    | 3 => some (.fault, bs)
    | 4 => some (.freeRun, bs)
    | n => some (.other n, bs)

/-- The request that a body spells for a request kind 0x01-0x1F; none where the body is shorter than its required length, or where the
kind names no request. Surplus bytes are ignored (R202). The body of a READ_ROSTER, READ_TALKS or READ_SALVO whose part byte names no part
is taken to need no argument bytes, so that its owner refuses it with RANGE (log entry 20, DESIGN CHOICE: the spec gives it no length). -/
def decodeRequest (kind : Nat) (body : List Byte) : Option Request :=
  match kind, body with
  | 0x01, b :: c :: _ => some (.setClass b.toNat c.toNat)
  | 0x02, s :: p :: _ => some (.setCamera s.toNat p.toNat)
  | 0x03, p :: i :: k :: x :: _ => some (.setInput p.toNat i.toNat k.toNat x.toNat)
  | 0x04, d :: m :: bs => do
    let (p, bs) ← takeOptByte (m.getLsbD 0) bs
    let (r, bs) ← takeOptByte (m.getLsbD 1) bs
    let (a, _) ← takeOptByte (m.getLsbD 2) bs
    some (.setDest d.toNat p r a)
  | 0x05, p :: m :: bs => do
    let (a, bs) ← takeOptWord (m.getLsbD 0) bs
    let (v, _) ← takeOptWord (m.getLsbD 1) bs
    some (.setThreshold p.toNat a v)
  | 0x06, l :: m :: bs => do
    let (e, bs) ← takeOptByte (m.getLsbD 0) bs
    let (r, bs) ← takeOptByte (m.getLsbD 1) bs
    let (t, _) ← takeOptByte (m.getLsbD 2) bs
    some (.setLoop l.toNat e r t)
  | 0x07, l :: a :: m :: bs => do
    let (p, bs) ← takeOptByte (m.getLsbD 0) bs
    let (o, bs) ← takeOptByte (m.getLsbD 1) bs
    let (n, bs) ← takeByte bs
    let (ks, _) ← takeKeys n bs
    some (.setKeymap l.toNat a.toNat p o ks)
  | 0x08, l :: a :: m :: bs => do
    let (s0, bs) ← takeOptByte (m.getLsbD 0) bs
    let (s1, bs) ← takeOptByte (m.getLsbD 1) bs
    let (s2, bs) ← takeOptByte (m.getLsbD 2) bs
    let (s3, _) ← takeOptByte (m.getLsbD 3) bs
    some (.setSlots l.toNat a.toNat s0 s1 s2 s3)
  | 0x09, g :: n :: bs => (takeBytes n.toNat bs).map fun x => .setGroup g.toNat x.1
  | 0x0A, c :: t :: p :: d :: _ => some (.setIfb c.toNat t.toNat p.toNat d.toNat)
  | 0x0B, bs => (takeWord bs).map fun x => .setLatch x.1
  | 0x0C, i :: m :: bs => do
    let (g, bs) ← if m.getLsbD 0 then (takeGpiMap bs).map (fun x => (some x.1, x.2)) else some (none, bs)
    let (d, _) ← takeOptWord (m.getLsbD 1) bs
    some (.setGpi i.toNat g d)
  | 0x0D, o :: bs => (takeGpoMap bs).map fun x => .setGpo o.toNat x.1
  | 0x0E, hi :: lo :: _ => some (.setFilter (hi ++ lo))
  | 0x0F, d :: s :: f :: _ => some (.take d.toNat s.toNat (f.getLsbD 0))
  | 0x10, d :: _ => some (.lock d.toNat)
  | 0x11, d :: f :: _ => some (.unlock d.toNat (f.getLsbD 0))
  | 0x12, p :: a :: n :: k :: x :: _ => some (.talk p.toNat a.toNat n.toNat ⟨k.toNat, x.toNat⟩)
  | 0x13, p :: n :: bs => (takeEntries n.toNat bs).map fun x => .salvoWrite p.toNat x.1
  | 0x14, p :: _ => some (.salvoErase p.toNat)
  | 0x15, p :: _ => some (.salvoRecall p.toNat)
  | 0x16, p :: _ => some (.salvoBoot p.toNat)
  | 0x17, l :: _ => some (.loopRestart l.toNat)
  | 0x18, _ => some .restart
  | 0x19, v :: f :: c :: _ => some (.readTally v.toNat f.toNat c.toNat)
  | 0x1A, d :: _ => some (.readDest d.toNat)
  | 0x1B, l :: p :: bs =>
    if p.toNat = 1 ∨ p.toNat = 2 then (takeByte bs).map fun x => .readRoster l.toNat p.toNat x.1
    else some (.readRoster l.toNat p.toNat 0)
  | 0x1C, p :: bs =>
    if p.toNat ≤ 1 then
      match bs with
      | f :: c :: _ => some (.readTalks p.toNat f.toNat c.toNat)
      | _ => none
    else if p.toNat = 2 then (takeByte bs).map fun x => .readTalks p.toNat x.1 0
    else some (.readTalks p.toNat 0 0)
  | 0x1D, p :: _ => some (.readListener p.toNat)
  | 0x1E, p :: bs =>
    if p.toNat = 0 then (takeByte bs).map fun x => .readSalvo p.toNat x.1 else some (.readSalvo p.toNat 0)
  | 0x1F, p :: _ => some (.readStatus p.toNat)
  | _, _ => none

/-! ## Writing requests -/

/-- An optional byte, written where present. -/
def putOptByte : Option Nat → List Byte
  | none => []
  | some n => [byteOf n]

/-- An optional two-byte number, written where present. -/
def putOptWord : Option Nat → List Byte
  | none => []
  | some n => word16 n

def RawTarget.bytes (t : RawTarget) : List Byte := [byteOf t.kind, byteOf t.index]
def RawKey.bytes (k : RawKey) : List Byte :=
  [byteOf k.key, byteOf k.function, byteOf k.argHi, byteOf k.argLo, bitsByte [k.noLatch, k.priority]]
def RawEntry.bytes (e : RawEntry) : List Byte := [byteOf e.dest, byteOf e.source]
def RawGpiMap.bytes : RawGpiMap → List Byte
  | .unmapped => [0#8]
  | .forceRed s p => [1#8, byteOf s, byteOf p]
  | .talk p t => 2#8 :: byteOf p :: t.bytes
  | .arm d => [3#8, byteOf d]
  | .other k => [byteOf k]
def RawGpoMap.bytes : RawGpoMap → List Byte
  | .unmapped => [0#8]
  | .tally s c v => [1#8, byteOf s, byteOf c, byteOf v]
  | .talking p => [2#8, byteOf p]
  | .fault => [3#8]
  | .freeRun => [4#8]
  | .other k => [byteOf k]

/-- The body of a request, from the tables of 12.3 and R203. -/
def Request.body : Request → List Byte
  | .setClass b c => [byteOf b, byteOf c]
  | .setCamera s p => [byteOf s, byteOf p]
  | .setInput p i k x => [byteOf p, byteOf i, byteOf k, byteOf x]
  | .setDest d p r a => byteOf d :: bitsByte [p.isSome, r.isSome, a.isSome] :: (putOptByte p ++ putOptByte r ++ putOptByte a)
  | .setThreshold p a v => byteOf p :: bitsByte [a.isSome, v.isSome] :: (putOptWord a ++ putOptWord v)
  | .setLoop l e r t => byteOf l :: bitsByte [e.isSome, r.isSome, t.isSome] :: (putOptByte e ++ putOptByte r ++ putOptByte t)
  | .setKeymap l a p o ks =>
    byteOf l :: byteOf a :: bitsByte [p.isSome, o.isSome] :: (putOptByte p ++ putOptByte o ++ byteOf ks.length :: ks.flatMap RawKey.bytes)
  | .setSlots l a s0 s1 s2 s3 =>
    byteOf l :: byteOf a :: bitsByte [s0.isSome, s1.isSome, s2.isSome, s3.isSome] ::
      (putOptByte s0 ++ putOptByte s1 ++ putOptByte s2 ++ putOptByte s3)
  | .setGroup g ms => byteOf g :: byteOf ms.length :: ms.map byteOf
  | .setIfb c t p d => [byteOf c, byteOf t, byteOf p, byteOf d]
  | .setLatch w => word16 w
  | .setGpi i m d => byteOf i :: bitsByte [m.isSome, d.isSome] :: ((m.map RawGpiMap.bytes).getD [] ++ putOptWord d)
  | .setGpo o m => byteOf o :: m.bytes
  | .setFilter ks => [ks.extractLsb' 8 8, ks.extractLsb' 0 8]
  | .take d s f => [byteOf d, byteOf s, bitsByte [f]]
  | .lock d => [byteOf d]
  | .unlock d f => [byteOf d, bitsByte [f]]
  | .talk p a n t => [byteOf p, byteOf a, byteOf n] ++ t.bytes
  | .salvoWrite p es => byteOf p :: byteOf es.length :: es.flatMap RawEntry.bytes
  | .salvoErase p => [byteOf p]
  | .salvoRecall p => [byteOf p]
  | .salvoBoot p => [byteOf p]
  | .loopRestart l => [byteOf l]
  | .restart => []
  | .readTally v f c => [byteOf v, byteOf f, byteOf c]
  | .readDest d => [byteOf d]
  | .readRoster l p a => if p = 1 ∨ p = 2 then [byteOf l, byteOf p, byteOf a] else [byteOf l, byteOf p]
  | .readTalks p f c => if p ≤ 1 then [byteOf p, byteOf f, byteOf c] else if p = 2 then [byteOf p, byteOf f] else [byteOf p]
  | .readListener p => [byteOf p]
  | .readSalvo p n => if p = 0 then [byteOf p, byteOf n] else [byteOf p]
  | .readStatus p => [byteOf p]

/-! ## Frames (12.1) -/

/-- The bytes of a frame after its sync byte: length, kind, tag, body and check. -/
def frameBytes (kind tag : Byte) (body : List Byte) : List Byte :=
  let inner := byteOf (body.length + 2) :: kind :: tag :: body
  inner ++ [checkFor inner]

/-! ## Mixer records (12.5) -/

/-- The kind byte of a STAGE record. -/
def stageKind : Byte := 0x60#8
/-- The kind byte of a KEEP record. -/
def keepKind : Byte := 0x61#8

def RawRef.bytes (r : RawRef) : List Byte := [byteOf r.kind, byteOf r.index]

/-- The 15 body bytes of a STAGE record. -/
def RawStage.bytes (r : RawStage) : List Byte :=
  byteOf r.stage :: (r.aRef.bytes ++ r.bRef.bytes ++ word16 r.position ++ r.key1.bytes ++ word16 r.gain1 ++ r.key2.bytes ++ word16 r.gain2)

/-- The STAGE record that 15 body bytes spell; none for another length. -/
def decodeStage : List Byte → Option RawStage
  | [s, ak, ai, bk, bi, th, tl, k1, x1, g1h, g1l, k2, x2, g2h, g2l] =>
    some { stage := s.toNat, aRef := ⟨ak.toNat, ai.toNat⟩, bRef := ⟨bk.toNat, bi.toNat⟩, position := th.toNat * 256 + tl.toNat,
           key1 := ⟨k1.toNat, x1.toNat⟩, gain1 := g1h.toNat * 256 + g1l.toNat,
           key2 := ⟨k2.toNat, x2.toNat⟩, gain2 := g2h.toNat * 256 + g2l.toNat }
  | _ => none

/-! ## Card records (12.7) -/

/-- A record that a card sends (R205). -/
inductive CardRecord where
  | xecho (dest actual sequence : Nat)
  | aack (port : Nat)
  | present (card kind : Nat)
deriving DecidableEq, Repr

/-- How many bytes a card's record of a type has, its check byte among them; none for a type that no card sends (R205, 12.7). -/
def cardRecordLength (type : Byte) : Option Nat :=
  if type = 0x12#8 then some 5 else if type = 0x21#8 then some 3 else if type = 0x31#8 then some 4 else none

/-- The card record that the bytes after an idle gap begin with; none where they are stray in themselves: another type, too few
bytes, or a failed check. Bytes beyond the record are skipped (R205). -/
def decodeCardRecord : List Byte → Option CardRecord
  | 0x12#8 :: d :: a :: q :: c :: _ => if byteSum [0x12#8, d, a, q, c] = 0 then some (.xecho d.toNat a.toNat q.toNat) else none
  | 0x21#8 :: p :: c :: _ => if byteSum [0x21#8, p, c] = 0 then some (.aack p.toNat) else none
  | 0x31#8 :: n :: k :: c :: _ => if byteSum [0x31#8, n, k, c] = 0 then some (.present n.toNat k.toNat) else none
  | _ => none

/-- The bytes of a card record (12.7). -/
def CardRecord.bytes : CardRecord → List Byte
  | .xecho d a q => let xs := [0x12#8, byteOf d, byteOf a, byteOf q]; xs ++ [checkFor xs]
  | .aack p => let xs := [0x21#8, byteOf p]; xs ++ [checkFor xs]
  | .present c k => let xs := [0x31#8, byteOf c, byteOf k]; xs ++ [checkFor xs]

/-! ## Loop messages (12.6) -/

/-- The kind characters of the five panel replies. -/
def identKind : Byte := 0x11#8
def keysKind : Byte := 0x12#8
def stateKind : Byte := 0x13#8
def holdKind : Byte := 0x14#8
def quietKind : Byte := 0x15#8

/-- The data of a loop message after its address character: kind, body and check. -/
def loopData (kind : Byte) (body : List Byte) : List Byte := (kind :: body) ++ [checkFor (kind :: body)]

/-- One KEYS event character: bits 0-5 the key number, bit 7 set for DOWN. -/
def KeyEvent.byte (e : KeyEvent) : Byte := byteOf (e.key % 64 + if e.down then 128 else 0)
/-- The KEYS count character: bits 0-3 the event count, bit 7 MORE. -/
def keysCountByte (more : Bool) (n : Nat) : Byte := byteOf (n % 16 + if more then 128 else 0)
/-- The six characters of a STATE reply: key k is down when bit (k mod 8) of character floor(k / 8) is set. -/
def stateBytes (down : BitVec 48) : List Byte :=
  [down.extractLsb' 0 8, down.extractLsb' 8 8, down.extractLsb' 16 8, down.extractLsb' 24 8, down.extractLsb' 32 8, down.extractLsb' 40 8]

end Sys2Proof
end

