-- ==== Sys2Proof/Machine/State.lean ====
section
/-! DEFINITION. Everything the spec gives the device, as plain data, block by block in the chapters' order, and the state after a hard
reset. A timer is held as the reference clock count at which it expires. -/

namespace Sys2Proof.Machine

/-! ## Chapter 1: source map -/

/-- The class of a block of eight sources (R2), in code order. -/
inductive FeedClass where
  | camera
  | replay
  | graphics
  | line
  | returned
  | utility
deriving DecidableEq, Repr

/-- A mixer input map entry (R9). -/
inductive InputEntry where
  | unused
  | routed (dest : DestId)
  | direct (source : SourceId)
deriving DecidableEq, Repr

/-- The attributes of a destination (R11). -/
structure DestAttr where
  production : Prod3
  record : Bool
  arm : Bool
deriving DecidableEq, Repr

/-- The thresholds of a production (R14). -/
structure Thresholds where
  air : Nat
  preview : Nat
deriving DecidableEq, Repr

/-- The source map's tables (R2, R7, R9, R11, R14). -/
structure SourceMap where
  classes : Tbl 16 FeedClass
  cameraPort : Tbl 128 (Option PortId)
  inputs : Pair (Tbl 40 InputEntry)
  attrs : Tbl 64 DestAttr
  thresholds : Pair Thresholds
deriving DecidableEq, Repr

/-! ## Chapter 2: crosspoint controller -/

/-- What a destination carries: a source, or PARKED (none) (R15). -/
abbrev Feed := Option SourceId

/-- A lock owner or recaller: a panel, or LINK (R18). -/
inductive Identity where
  | panel (p : PanelId)
  | link
deriving DecidableEq, Repr

/-- The origin of a take (R17). -/
inductive TakeOrigin where
  | panel (p : PanelId)
  | link
  | salvo (n : SalvoId) (recaller : Identity)
deriving DecidableEq, Repr

/-- A destination's state, with the resend phase of RETRY (R15). -/
inductive DestState where
  | verified
  | inFlight
  | retry (sent : Bool)
  | faulted
deriving DecidableEq, Repr

/-- A lock: its owner, and its release deadline where it has one (R15). -/
structure Lock where
  owner : Identity
  deadline : Option Nat
deriving DecidableEq, Repr

/-- A destination record (R15). -/
structure Dest where
  expected : Feed
  state : DestState
  retryCount : Fin 2
  seq : Bool
  lock : Option Lock
  lastOrigin : Option TakeOrigin
deriving DecidableEq, Repr

/-- A take list entry (R17). -/
structure TakeEntry where
  dest : DestId
  source : Feed
  origin : TakeOrigin
  forced : Bool
deriving DecidableEq, Repr

/-- A superseded list record (R17). -/
structure Superseded where
  dest : DestId
  source : Feed
  origin : TakeOrigin
  count : Nat
deriving DecidableEq, Repr

/-- The frame watcher's state: LOCKED with its loss timer, or FREE_RUN with its period timer (R22). -/
inductive WatchState where
  | locked (loss : Nat)
  | freeRun (expiry : Nat)
deriving DecidableEq, Repr

/-- The frame watcher (R22, R23); periods and pulse times in reference clocks. -/
structure Watcher where
  state : WatchState
  measured : Option Nat
  freePeriod : Nat
  lastPulse : Option Nat
deriving DecidableEq, Repr

/-- The crosspoint controller (R15, R17, R22, R32). -/
structure Crosspoint where
  dests : Tbl 64 Dest
  takes : List TakeEntry
  superseded : List Superseded
  watcher : Watcher
  adopted : Bool
deriving DecidableEq, Repr

/-! ## Chapter 3: fabric line controller -/

/-- A dim value of an audio image: none, or MUTE (0) or 1-30 dB (section 3.1, R159). -/
abbrev Dim := Option (Fin 31)

/-- The audio matrix image of a listener port: talkers in ascending order, each with its dim value (R159). -/
abbrev Image := List (PortId × Dim)

/-- A video record waiting to be sent (R41). -/
inductive VideoRec where
  | xset (dest : DestId) (source : Feed) (seq : Bool)
  | xquery (dest : DestId)
deriving DecidableEq, Repr

/-- An ASET record (R41, section 3.1). -/
structure Aset where
  port : PortId
  image : Image
deriving DecidableEq, Repr

/-- A record the device sends (section 3.1). -/
inductive FabRec where
  | video (r : VideoRec)
  | aset (r : Aset)
  | probe (card : CardId)
deriving DecidableEq, Repr

/-- A card's presence (R40). -/
inductive Presence where
  | unknown
  | present
  | absent
deriving DecidableEq, Repr

/-- A card record (R40); its kind follows from its address. -/
structure Card where
  presence : Presence
  timeouts : Fin 2
  probe : Option Nat
  complaint : Bool
  progress : List DestId
  owed : Option Aset
deriving DecidableEq, Repr

/-- A record being sent, and whether a later XSET has superseded it (R42, R43). -/
structure Sending where
  record : FabRec
  superseded : Bool
deriving DecidableEq, Repr

/-- An outstanding exchange with its reply timer (R39). -/
structure Exchange where
  record : FabRec
  superseded : Bool
  expiry : Nat
deriving DecidableEq, Repr

/-- The fabric line's receiver (R205): waiting for the first byte that follows an idle gap (after a hard reset, and while it skips the
bytes that follow a complete or a stray record), or holding the bytes received of an unfinished record, none where only the gap has come. -/
inductive FabricRx where
  | awaitingGap
  | collecting (bytes : List Byte)
deriving DecidableEq, Repr

/-- The fabric line controller (R39 to R42), with its receiver (R205). -/
structure Fabric where
  cards : Tbl 7 Card
  exchanges : Tbl 7 (Option Exchange)
  video : List VideoRec
  audio : List Aset
  sending : Option Sending
  probesDue : Tbl 7 Bool
  rx : FabricRx
deriving DecidableEq, Repr

/-! ## Chapter 4: mixer ports, and frame receivers -/

/-- A frame receiver (R55, R187): HUNTING, or COLLECTING the bytes after the sync byte with its gap timer. -/
inductive Rx where
  | hunting
  | collecting (bytes : List Byte) (gap : Nat)
deriving DecidableEq, Repr

/-- A reference of a stage record (R58). -/
inductive Ref where
  | input (n : InputId)
  | stage (k : StageId)
  | black
  | matte
deriving DecidableEq, Repr

/-- A stage record (R58). -/
structure StageRec where
  aRef : Ref
  bRef : Ref
  position : Nat
  key1 : Ref
  gain1 : Nat
  key2 : Ref
  gain2 : Nat
deriving DecidableEq, Repr

/-- A port's state: LIVE with its stale timer, or STALE with the time of entry where it came from an expiry (R63). -/
inductive PortState where
  | live (expiry : Nat)
  | stale (since : Option Nat)
deriving DecidableEq, Repr

/-- A mixer port (R55, R58, R63, R68). -/
structure MixerPort where
  rx : Rx
  table : Tbl 4 StageRec
  state : PortState
  lastValid : Option Nat
  discards : Nat
  adjusts : Nat
deriving DecidableEq, Repr

/-! ## Chapter 5: tally -/

/-- A tally colour, in code order (12.2). -/
inductive Colour where
  | none
  | red
  | green
  | amber
deriving DecidableEq, Repr

/-- A published record of a source (R83). -/
structure TallyRec where
  colour : Colour
  air : Nat
  preview : Nat
  forced : Bool
  uncertain : Bool
deriving DecidableEq, Repr

/-- A branch of a stage (R74, R77). -/
inductive Branch where
  | a
  | b
  | key1
  | key2
deriving DecidableEq, Repr

/-- A cut, and so a cycle condition (R77, R78). -/
structure Cut where
  stage : StageId
  branch : Branch
  target : StageId
deriving DecidableEq, Repr

/-- The snapshot a computation works on (R70). -/
structure Snapshot where
  stages : Tbl 4 StageRec
  stale : Bool
  inputs : Tbl 40 InputEntry
  dests : Tbl 64 (Feed × DestState)
  classes : Tbl 16 FeedClass
  attrs : Tbl 64 DestAttr
  forced : Tbl 128 Bool
  thresholds : Thresholds
deriving DecidableEq, Repr

/-- A computation engine (R69): RUNNING while it holds a snapshot. -/
structure Engine where
  running : Option Snapshot
  again : Bool
  pendingAdoption : Bool
  published : Tbl 128 TallyRec
  cycle : Option Cut
  count : Nat
deriving DecidableEq, Repr

/-! ## Chapter 6: panel loops -/

/-- A miss's fault (R95), in the order R112 names them. -/
inductive LoopFault where
  | noise
  | framing
  | overrun
  | check
  | timeout
deriving DecidableEq, Repr

/-- The counts of a loop (R111). -/
structure LoopCounts where
  noise : Nat
  framing : Nat
  overrun : Nat
  check : Nat
  timeout : Nat
  stray : Nat
  searchFailures : Nat
  lineFaults : Nat
deriving DecidableEq, Repr

/-- A loop's rate setting (R103), in code order (12.3). -/
inductive RateSetting where
  | r62500
  | r125000
  | r250000
  | r500000
  | auto
deriving DecidableEq, Repr

/-- A lamp's cadence (12.2). -/
inductive Cadence where
  | steady
  | slow
  | fast
deriving DecidableEq, Repr

/-- A lamp value: NONE, or a colour with a cadence (Conventions). -/
inductive Lamp where
  | dark
  | lit (colour : Colour) (cadence : Cadence)
deriving DecidableEq, Repr

/-- A message of an exchange (R96); an ENROL knows whether its address was free, and a POLL its in-flight set (R101). -/
inductive LoopMessage where
  | poll (changes : List (LampId × Lamp))
  | enrol (free : Bool)
  | stateQuery
deriving DecidableEq, Repr

/-- Where an exchange stands: sending, in its reply window, or receiving a reply with the gap timer once a character has ended. -/
inductive ExchangePhase where
  | sending
  | window (expiry : Nat)
  | reply (gap : Option Nat)
deriving DecidableEq, Repr

/-- A loop exchange (R96). -/
structure LoopExchange where
  addr : AddrIx
  message : LoopMessage
  phase : ExchangePhase
deriving DecidableEq, Repr

/-- A received character: its data, its mark bit and its flags (R92). -/
structure LoopChar where
  data : Byte
  mark : Bool
  noise : Bool
  framing : Bool
deriving DecidableEq, Repr

/-- What a rate search is doing (R105, R106). -/
inductive SearchStep where
  | listening (expiry : Nat)
  | pausing (expiry : Nat)
  | breaking
  | waiting (expiry : Nat)
  | guard
deriving DecidableEq, Repr

/-- A loop's state (section 6.7). STARTING knows whether it is a restart attempt, and holds the 100 ms wait once its break is sent;
RATE_SEARCH knows whether a failure of it has been reported. -/
inductive LoopState where
  | disabled
  | starting (attempt : Bool) (wait : Option Nat)
  | rateSearch (failed : Bool) (step : SearchStep)
  | running
  | lineFault (restart : Nat)
deriving DecidableEq, Repr

/-- A loop controller (chapter 6). -/
structure Loop where
  state : LoopState
  rate : RateSetting
  nominal : Nat
  trim : Nat
  enrolPosition : Nat
  visited : Nat
  more : Option (AddrIx × Nat)
  exchange : Option LoopExchange
  buffer : List LoopChar
  overrun : Bool
  wanted : Tbl 16 Bool
  holdOff : Tbl 16 Bool
  counts : LoopCounts
deriving DecidableEq, Repr

/-! ## Chapter 7: roster, key maps, lamps -/

/-- A roster entry's state (R112). -/
inductive RosterState where
  | empty
  | joining
  | active
  | silent
  | lost
deriving DecidableEq, Repr

/-- A panel's kind (R112). -/
inductive PanelKind where
  | key
  | router
  | camera
  | combined
deriving DecidableEq, Repr

/-- What a panel's last IDENT gave (R112). -/
structure Ident where
  kind : PanelKind
  keys : Nat
  slots : Nat
  revision : Nat
deriving DecidableEq, Repr

/-- A key of the key image: up, or down without a mark, stale-down or deferred (R112). -/
inductive KeyHold where
  | up
  | down
  | stale
  | deferred
deriving DecidableEq, Repr

/-- A roster entry (R112). Its lamp image is held by the lamp composer. -/
structure RosterEntry where
  state : RosterState
  ident : Option Ident
  missed : Nat
  lastFault : Option LoopFault
  selected : Option DestId
  keys : Tbl 48 KeyHold
  sent : Tbl 52 (Option Lamp)
  lostAt : Option Nat
deriving DecidableEq, Repr

/-- A talk or listen target (R124, R134). -/
inductive Target where
  | port (n : PortId)
  | group (g : GroupId)
  | follow (p : Prod2)
  | ifb (i : CircuitId)
deriving DecidableEq, Repr

/-- A key's function with its argument (R124). -/
inductive KeyFn where
  | unused
  | talk (t : Target)
  | listen (t : Target)
  | dest (d : DestId)
  | source (f : Feed)
  | lock
  | salvo (n : SalvoId)
deriving DecidableEq, Repr

/-- A key assignment (R124). -/
structure KeyAssign where
  fn : KeyFn
  noLatch : Bool
  priority : Bool
deriving DecidableEq, Repr

/-- A key map entry (R124). -/
structure KeyMapEntry where
  production : Prod3
  port : Option PortId
  keys : Tbl 48 KeyAssign
  slots : Tbl 4 (Option SourceId)
deriving DecidableEq, Repr

/-- The lamp composer: the lamp image of every entry, and the refused-press displays (R112, R127). -/
structure Lamps where
  image : PanelTbl (Tbl 52 Lamp)
  refused : PanelTbl (Tbl 48 Bool)
deriving DecidableEq, Repr

/-! ## Chapter 8: talk engine -/

/-- A cause of a talker list or wait list entry (R136). -/
inductive Cause where
  | talk (id : TalkId)
  | listen (id : ListenId)
  | program (i : CircuitId)
deriving DecidableEq, Repr

/-- A talker list entry (R136). -/
structure TalkerEntry where
  talker : PortId
  causes : List Cause
  dim : Bool
  creation : BitVec 32
deriving DecidableEq, Repr

/-- A wait list entry (R136). -/
structure WaitEntry where
  talker : PortId
  cause : Cause
deriving DecidableEq, Repr

/-- A listener record (R136). -/
structure Listener where
  talkers : List TalkerEntry
  waits : List WaitEntry
deriving DecidableEq, Repr

/-- How far a talk or listen reaches (R143). -/
inductive Resolution where
  | complete
  | partly
  | pending
deriving DecidableEq, Repr

/-- What created a talk or listen (R134, R135). -/
inductive TalkOrigin where
  | panel (p : PanelId) (key : KeyId)
  | gpi (n : GpiId)
  | link
deriving DecidableEq, Repr

/-- A talk record (R134). Its key state is that of its key; a listener's placement follows from the listener record (R136). -/
structure TalkRec where
  talker : PortId
  target : Target
  origin : TalkOrigin
  priority : Bool
  resolution : Resolution
  listeners : List PortId
deriving DecidableEq, Repr

/-- A listen record (R135). -/
structure ListenRec where
  listener : PortId
  target : Target
  origin : TalkOrigin
  resolution : Resolution
  talkers : List PortId
deriving DecidableEq, Repr

/-- A TALK key's state, with the latch timer of HELD (R146, R147). -/
inductive TalkKey where
  | idle
  | held (latch : Nat)
  | momentary
  | latched
  | unlatching
  | refused
deriving DecidableEq, Repr

/-- An IFB circuit (R154). -/
structure Circuit where
  talent : Option PortId
  program : PortId
  dim : Fin 31
deriving DecidableEq, Repr

/-- The talk engine (chapter 8). -/
structure Talk where
  talks : Tbl 128 (Option TalkRec)
  listens : Tbl 64 (Option ListenRec)
  listeners : Tbl 96 Listener
  creation : BitVec 32
  groups : Tbl 16 (List PortId)
  circuits : Tbl 16 Circuit
  latchWindow : Nat
  keys : PanelTbl (Tbl 48 TalkKey)
  colours : Pair (Tbl 128 Colour)
deriving DecidableEq, Repr

/-! ## Chapter 9: GPIO unit -/

/-- A GPI's mapping (R164). -/
inductive GpiMap where
  | unmapped
  | forceRed (s : SourceId) (p : Prod3)
  | talk (talker : PortId) (target : Target)
  | arm (d : DestId)
deriving DecidableEq, Repr

/-- An input record (R164); true is active. -/
structure Gpi where
  raw : Bool
  level : Bool
  time : Nat
  timer : Option Nat
  mapping : GpiMap
deriving DecidableEq, Repr

/-- A set of colours (R171). -/
structure ColourSet where
  none : Bool
  red : Bool
  green : Bool
  amber : Bool
deriving DecidableEq, Repr

/-- A GPO's mapping (R171). -/
inductive GpoMap where
  | unmapped
  | tally (s : SourceId) (colours : ColourSet) (view : Prod3)
  | talking (p : PortId)
  | fault
  | freeRun
deriving DecidableEq, Repr

/-- An output record (R170). -/
structure Gpo where
  mapping : GpoMap
  active : Bool
deriving DecidableEq, Repr

/-- The GPIO unit with its copies of the conditions (R164, R170). -/
structure Gpio where
  inputs : Tbl 16 Gpi
  outputs : Tbl 16 Gpo
  colours : Pair (Tbl 128 Colour)
  combined : Tbl 128 Colour
  talking : Tbl 96 Bool
  faulted : Tbl 64 Bool
  absent : Tbl 7 Bool
  freeRun : Bool
deriving DecidableEq, Repr

/-! ## Chapter 10: salvo store -/

/-- A page's state (R174). -/
inductive PageState where
  | empty
  | valid
  | bad
deriving DecidableEq, Repr

/-- A destination and source pair of a salvo (R174). -/
structure SalvoEntry where
  dest : DestId
  source : Feed
deriving DecidableEq, Repr

/-- A salvo page (R174); its entry count is the length of its entries. -/
structure Page where
  state : PageState
  entries : List SalvoEntry
  mark : Bool
deriving DecidableEq, Repr

/-- The boot header (R175). -/
structure BootHeader where
  boot : Option SalvoId
  bad : Bool
  mark : Bool
deriving DecidableEq, Repr

/-- What an operation programs, and where (R176). -/
inductive StoreJob where
  | write (page : SalvoId) (entries : List SalvoEntry)
  | erase (page : SalvoId)
  | boot (value : Option SalvoId)
deriving DecidableEq, Repr

/-- The store's state, with the operation record of OPERATING (R176). -/
inductive StoreState where
  | starting
  | idle
  | operating (job : StoreJob) (second : Bool) (tag : Nat)
deriving DecidableEq, Repr

/-- The salvo store (R174 to R176); bootPending until the boot salvo has been staged or skipped (R184). -/
structure Store where
  state : StoreState
  pages : Tbl 48 Page
  header : BootHeader
  bootPending : Bool
deriving DecidableEq, Repr

/-! ## Chapter 11: control link -/

/-- A reply's result, in code order (12.2). -/
inductive Result where
  | done
  | accepted
  | busy
  | locked
  | range
  | classed
  | full
  | absent
  | state
  | frame
deriving DecidableEq, Repr

/-- A reply (R192): tag, result, the kind of the request answered (0 for none), and the owner's data (or the cause of a FRAME). -/
structure Reply where
  tag : Nat
  result : Result
  kind : Nat
  data : List Byte
deriving DecidableEq, Repr

/-- A reply waiting for the transmitter: the reply slot's, or one of the immediate reply list (R191, R193). -/
structure PendingReply where
  slot : Bool
  reply : Reply
deriving DecidableEq, Repr

/-- A request in the request queue (R190). -/
structure Queued where
  tag : Nat
  request : Request
deriving DecidableEq, Repr

/-- The notice kinds, in code order from 0x41 (12.1). -/
inductive NoticeKind where
  | tally
  | taken
  | destFault
  | lock
  | card
  | mixer
  | frame
  | roster
  | loop
  | talk
  | store
  | config
  | gap
deriving DecidableEq, Repr

/-- The result of a TAKEN item, in code order (12.4). -/
inductive TakenResult where
  | dispatched
  | locked
  | unchanged
  | superseded
  | range
  | classed
deriving DecidableEq, Repr

/-- An item of a TAKEN notice (R26, 12.4). -/
structure TakenItem where
  dest : Nat
  result : TakenResult
  source : Feed
  origin : TakeOrigin
  count : Nat
deriving DecidableEq, Repr

/-- The occasion of a TAKEN notice (R26). -/
inductive Occasion where
  | frame
  | recall (n : SalvoId) (recaller : Identity)
  | restart
deriving DecidableEq, Repr

/-- A verify outcome (R28). -/
inductive Verify where
  | matched
  | mismatch (actual : Feed)
  | timeout
deriving DecidableEq, Repr

/-- The change of a LOCK notice (R36). -/
inductive LockChange where
  | acquired
  | released
  | forced
  | deadlineSet
  | deadlineCleared
  | expired
  | cleared
deriving DecidableEq, Repr

/-- The record whose exchange made a card's second timeout (R54). -/
inductive LostRecord where
  | xset (d : DestId)
  | xquery (d : DestId)
  | aset (p : PortId)
deriving DecidableEq, Repr

/-- The change of a CARD notice (R54). -/
inductive CardChange where
  | present
  | absentProbe
  | absentTimeout (record : LostRecord)
  | wrongKind (reported : Bool)
deriving DecidableEq, Repr

/-- The change of a MIXER notice (R67, R78). -/
inductive MixerChange where
  | stale (discards adjusts : Nat)
  | live (stage : Option StageId) (spent : Option Nat)
  | cycle (cut : Cut)
  | cycleClear
deriving DecidableEq, Repr

/-- The cause of a ROSTER notice (R132). -/
inductive RosterCause where
  | enrol
  | reply
  | miss
  | line
  | search
  | holdExpiry
  | loopRestart
  | rate
  | disable
  | restart
deriving DecidableEq, Repr

/-- An item of a ROSTER notice (R132). -/
structure RosterItem where
  addr : AddrIx
  before : RosterState
  after : RosterState
  missed : Nat
  lastFault : Option LoopFault
  ident : Option Ident
deriving DecidableEq, Repr

/-- The state a loop was in at a line fault (R110). -/
inductive FaultedFrom where
  | running
  | starting
  | rateSearch
deriving DecidableEq, Repr

/-- The change of a LOOP notice (R110). -/
inductive LoopChange where
  | running (rate : RateSetting) (nominal trim working : Nat)
  | searchNoMark
  | searchRange (clocks : Nat)
  | lineFault (was : FaultedFrom)
  | disabled
deriving DecidableEq, Repr

/-- Why a talk or listen ended (R160). -/
inductive EndReason where
  | release
  | unlatch
  | gpi
  | link
  | silent
  | lost
  | keymap
  | restart
deriving DecidableEq, Repr

/-- Why a talk or listen was refused (R160). -/
inductive RefuseReason where
  | noPort
  | target
  | full
deriving DecidableEq, Repr

/-- The change of a TALK notice item (R160). -/
inductive TalkChange where
  | created (r : Resolution)
  | ended (r : EndReason)
  | resolution (r : Resolution)
  | refused (r : RefuseReason)
deriving DecidableEq, Repr

/-- An item of a TALK notice (R160); a REFUSED press of a panel without a port has no port. -/
structure TalkItem where
  listen : Bool
  number : Option Nat
  origin : TalkOrigin
  port : Option PortId
  target : Target
  change : TalkChange
deriving DecidableEq, Repr

/-- The event of a STORE notice (R185). -/
inductive StoreEvent where
  | start (pages : List SalvoId) (header : Bool)
  | done (tag : Nat) (job : StoreJob) (good : Bool) (programmings : Nat) (committed : Option SalvoId)
  | recallRefused (p : PanelId) (page : SalvoId) (result : Result)
  | staged (page : SalvoId) (handed entered : Nat)
  | skipped (page : SalvoId) (reason : Result)
deriving DecidableEq, Repr

/-- A changed source of a TALLY notice (R84). -/
structure TallyChange where
  source : SourceId
  colour : Colour
  forced : Bool
  uncertain : Bool
deriving DecidableEq, Repr

/-- A notice with its fields (section 11.4). -/
inductive Notice where
  | tally (p : Prod2) (count : Nat) (changes : List TallyChange)
  | taken (occasion : Occasion) (items : List TakenItem)
  | destFault (d : DestId) (expected : Feed) (outcome : Verify) (origin : Option TakeOrigin)
  | lock (change : LockChange) (owner : Identity) (dests : List DestId)
  | locksCleared (locks : List (DestId × Identity))
  | card (c : CardId) (change : CardChange)
  | mixer (p : Prod2) (change : MixerChange)
  | frameLocked
  | frameFreeRun (microseconds : Nat)
  | roster (l : LoopId) (cause : RosterCause) (items : List RosterItem)
  | loop (l : LoopId) (change : LoopChange)
  | talk (link : Bool) (items : List TalkItem)
  | store (event : StoreEvent)
  | config (tag : Nat) (block : BlockId) (sources : List SourceId) (gpis : List GpiId)
  | gap (dropped : Nat) (kinds : BitVec 16)
deriving DecidableEq, Repr

/-- A notice in the notice queue with its number (R196). -/
structure QueuedNotice where
  number : Nat
  notice : Notice
deriving DecidableEq, Repr

/-- A frame on the line: kind, tag and body (12.1). -/
structure OutFrame where
  kind : Nat
  tag : Nat
  body : List Byte
deriving DecidableEq, Repr

/-- The parts of a long notice that are still to be sent (R204). -/
structure Continuation where
  kind : Nat
  number : Nat
  index : Nat
  rest : List Byte
deriving DecidableEq, Repr

/-- The counts of the control link (R199). -/
structure LinkCounts where
  length : Nat
  framing : Nat
  gap : Nat
  check : Nat
  kind : Nat
  skipped : Nat
  busy : Nat
  unformed : Nat
deriving DecidableEq, Repr

/-- The control link unit (chapter 11). -/
structure Link where
  rx : Rx
  requests : List Queued
  serving : Bool
  replies : List PendingReply
  sending : Option OutFrame
  continuation : Option Continuation
  notices : List QueuedNotice
  gapFlag : Bool
  dropped : Nat
  droppedKinds : BitVec 16
  filter : BitVec 16
  noticeCount : Nat
  counts : LinkCounts
deriving DecidableEq, Repr

/-! ## The device -/

/-- Why the device could stop with a fault: never. The spec describes no step that stops the device, so this type has no constructor. -/
inductive Fault where
deriving DecidableEq, Repr

/-- Why the model could have no meaning for a command. -/
inductive Refusal where
  /-- Raised by exec's arm of a command whose meaning is not written yet, by the command's mnemonic. Safe: a run stops there. No arm
  raises it now. -/
  | notModelled (mnemonic : String)
deriving DecidableEq, Repr

/-- The whole device, its clock, and the commands that wait. -/
structure State where
  clock : Nat
  map : SourceMap
  xpt : Crosspoint
  fabric : Fabric
  mixers : Pair MixerPort
  engines : Pair Engine
  loops : Tbl 4 Loop
  roster : PanelTbl RosterEntry
  keymap : PanelTbl KeyMapEntry
  lamps : Lamps
  talk : Talk
  gpio : Gpio
  store : Store
  link : Link
  pending : List Instr
deriving DecidableEq, Repr

/-! ## Reset values, block by block -/

/-- R2, R7, R9, R11, R14. -/
def SourceMap.reset : SourceMap where
  classes := .replicate 16 .utility
  cameraPort := .replicate 128 none
  inputs := ⟨.replicate 40 .unused, .replicate 40 .unused⟩
  attrs := .replicate 64 ⟨.both, false, false⟩
  thresholds := ⟨⟨Config.thresholdDefault, Config.thresholdDefault⟩, ⟨Config.thresholdDefault, Config.thresholdDefault⟩⟩

/-- R15; DESIGN CHOICE (log entry 5): PARKED and VERIFIED until adoption writes the record (R32). -/
def Dest.reset : Dest :=
  { expected := none, state := .verified, retryCount := 0, seq := false, lock := none, lastOrigin := none }

/-- R15, R17, R22, R32. -/
def Crosspoint.reset (now : Nat) : Crosspoint where
  dests := .replicate 64 Dest.reset
  takes := []
  superseded := []
  watcher := { state := .freeRun (now + Config.periodDefault), measured := none, freePeriod := Config.periodDefault, lastPulse := none }
  adopted := false

/-- R40. -/
def Card.reset : Card :=
  { presence := .unknown, timeouts := 0, probe := none, complaint := false, progress := [], owed := none }

/-- R39 to R42, R51: the idle transmitter has begun the first of the seven due probes. -/
def Fabric.reset : Fabric where
  cards := .replicate 7 Card.reset
  exchanges := .replicate 7 none
  video := []
  audio := []
  sending := some ⟨.probe 0, false⟩
  probesDue := (Tbl.replicate 7 true).set 0 false
  rx := .awaitingGap

/-- R58. -/
def StageRec.reset : StageRec :=
  { aRef := .black, bRef := .black, position := 0, key1 := .black, gain1 := 0, key2 := .black, gain2 := 0 }

/-- R55, R58, R68. -/
def MixerPort.reset : MixerPort where
  rx := .hunting
  table := .replicate 4 StageRec.reset
  state := .stale none
  lastValid := none
  discards := 0
  adjusts := 0

/-- R72. -/
def TallyRec.reset : TallyRec := { colour := .none, air := 0, preview := 0, forced := false, uncertain := false }

/-- R72. -/
def Engine.reset : Engine where
  running := none
  again := false
  pendingAdoption := true
  published := .replicate 128 TallyRec.reset
  cycle := none
  count := 0

/-- R103, R111. -/
def Loop.reset : Loop where
  state := .disabled
  rate := .r125000
  nominal := 192
  trim := 16
  enrolPosition := 16
  visited := 0
  more := none
  exchange := none
  buffer := []
  overrun := false
  wanted := .replicate 16 false
  holdOff := .replicate 16 false
  counts := ⟨0, 0, 0, 0, 0, 0, 0, 0⟩

/-- R112. -/
def RosterEntry.reset : RosterEntry where
  state := .empty
  ident := none
  missed := 0
  lastFault := none
  selected := none
  keys := .replicate 48 .up
  sent := .replicate 52 none
  lostAt := none

/-- R124. -/
def KeyMapEntry.reset : KeyMapEntry where
  production := .both
  port := none
  keys := .replicate 48 ⟨.unused, false, false⟩
  slots := .replicate 4 none

/-- R112, R127. -/
def Lamps.reset : Lamps where
  image := .replicate 4 (.replicate 16 (.replicate 52 .dark))
  refused := .replicate 4 (.replicate 16 (.replicate 48 false))

/-- R134 to R138, R146, R149, R154. -/
def Talk.reset : Talk where
  talks := .replicate 128 none
  listens := .replicate 64 none
  listeners := .replicate 96 ⟨[], []⟩
  creation := 0
  groups := .replicate 16 []
  circuits := .replicate 16 ⟨none, 0, 0⟩
  latchWindow := Config.latchDefault
  keys := .replicate 4 (.replicate 16 (.replicate 48 .idle))
  colours := ⟨.replicate 128 .none, .replicate 128 .none⟩

/-- R164: everything but the raw level, which is the contact's. -/
def Gpi.reset (now : Nat) (raw : Bool) : Gpi :=
  { raw := raw, level := false, time := Config.debounceDefault, timer := some (now + Config.ms Config.debounceDefault), mapping := .unmapped }

/-- R164, R170. -/
def Gpio.reset (now : Nat) (raws : Tbl 16 Bool) : Gpio where
  inputs := raws.map (Gpi.reset now)
  outputs := .replicate 16 ⟨.unmapped, false⟩
  colours := ⟨.replicate 128 .none, .replicate 128 .none⟩
  combined := .replicate 128 .none
  talking := .replicate 96 false
  faulted := .replicate 64 false
  absent := .replicate 7 false
  freeRun := true

/-- R176: STARTING over the non-volatile pages and header, which a reset keeps. -/
def Store.reset (pages : Tbl 48 Page) (header : BootHeader) : Store where
  state := .starting
  pages := pages
  header := header
  bootPending := true

/-- A page as the device leaves the factory (R174). -/
def Page.factory : Page := { state := .empty, entries := [], mark := false }

/-- The boot header as the device leaves the factory (R175). -/
def BootHeader.factory : BootHeader := { boot := none, bad := false, mark := false }

/-- The kind set that names all thirteen notice kinds (R194). -/
def allKinds : BitVec 16 := 0x1FFF#16

/-- R187, R190 to R197. -/
def Link.reset : Link where
  rx := .hunting
  requests := []
  serving := false
  replies := []
  sending := none
  continuation := none
  notices := []
  gapFlag := false
  dropped := 0
  droppedKinds := 0
  filter := allKinds
  noticeCount := 0
  counts := ⟨0, 0, 0, 0, 0, 0, 0, 0⟩

/-- The device at the release of a hard reset at clock `now`, over what a reset keeps: the store's pages and header, and the contacts'
levels. -/
def State.atReset (now : Nat) (pages : Tbl 48 Page) (header : BootHeader) (raws : Tbl 16 Bool) : State where
  clock := now
  map := .reset
  xpt := .reset now
  fabric := .reset
  mixers := ⟨.reset, .reset⟩
  engines := ⟨.reset, .reset⟩
  loops := .replicate 4 .reset
  roster := .replicate 4 (.replicate 16 .reset)
  keymap := .replicate 4 (.replicate 16 .reset)
  lamps := .reset
  talk := .reset
  gpio := .reset now raws
  store := .reset pages header
  link := .reset
  pending := []

/-- The device after a hard reset as it leaves the factory, every contact open (log entry 4). -/
def State.reset : State := .atReset 0 (.replicate 48 .factory) .factory (.replicate 16 false)

end Sys2Proof.Machine
end

