-- ==== Sys2Proof/Machine/Operands.lean ====
section
/-! DEFINITION. Operand forms: how an owner reads a received field (12.2, 12.3), with none for a value outside the field's range. -/

namespace Sys2Proof.Machine

/-- An index below `n`. -/
def indexOf (n k : Nat) : Option (Fin n) := if h : k < n then some ⟨k, h⟩ else none

/-- An optional index: 255 is none (12.2). -/
def optIndexOf (n k : Nat) : Option (Option (Fin n)) := if k = 255 then some none else (indexOf n k).map some

/-- A production A or B (12.2). -/
def prod2Of : Nat → Option Prod2
  | 0 => some .a
  | 1 => some .b
  | _ => none

/-- A production or view with BOTH, SHARED or COMBINED (12.2). -/
def prod3Of : Nat → Option Prod3
  | 0 => some .a
  | 1 => some .b
  | 2 => some .both
  | _ => none

/-- A flag byte that is clear or set (R12). -/
def boolOf : Nat → Option Bool
  | 0 => some false
  | 1 => some true
  | _ => none

/-- A source 0-127, or PARKED as 255 (12.2). -/
def feedOf (k : Nat) : Option Feed := optIndexOf 128 k

/-- A class code 0-5 (R2). -/
def classOf : Nat → Option FeedClass
  | 0 => some .camera
  | 1 => some .replay
  | 2 => some .graphics
  | 3 => some .line
  | 4 => some .returned
  | 5 => some .utility
  | _ => none

/-- An input map entry: 0 NONE, 1 ROUTED, 2 DIRECT, with its index (12.3). -/
def inputEntryOf : Nat → Nat → Option InputEntry
  | 0, _ => some .unused
  | 1, d => (indexOf 64 d).map .routed
  | 2, s => (indexOf 128 s).map .direct
  | _, _ => none

/-- A (loop, address) with loop 0-3 and address 1-16. -/
def panelOf (loop address : Nat) : Option PanelId :=
  match indexOf 4 loop, indexOf 16 (address - 1) with
  | some l, some a => if address = 0 then none else some ⟨l, a⟩
  | _, _ => none

/-- A target (12.2, R124). -/
def targetOf (t : RawTarget) : Option Target :=
  match t.kind with
  | 0 => (indexOf 96 t.index).map .port
  | 1 => (indexOf 16 t.index).map .group
  | 2 => (prod2Of t.index).map .follow
  | 3 => (indexOf 16 t.index).map .ifb
  | _ => none

/-- A target a listen may have: PORT or GROUP (R125, R135, R153). -/
def listenTargetOf (t : RawTarget) : Option Target :=
  match targetOf t with
  | some (.port n) => some (.port n)
  | some (.group g) => some (.group g)
  | _ => none

/-- A key's function with its argument (R124, R125, 12.3). The argument bytes of NONE and LOCK, which have no argument, are not examined
(log entry 21, DESIGN CHOICE: the spec does not say whether such bytes may be out of range). -/
def keyFnOf (k : RawKey) : Option KeyFn :=
  let arg := k.argHi * 256 + k.argLo
  match k.function with
  | 0 => some .unused
  | 1 => (targetOf ⟨k.argHi, k.argLo⟩).map .talk
  | 2 => (listenTargetOf ⟨k.argHi, k.argLo⟩).map .listen
  | 3 => (indexOf 64 arg).map .dest
  | 4 => (feedOf arg).map .source
  | 5 => some .lock
  | 6 => (indexOf 48 arg).map .salvo
  | _ => none

/-- A key assignment: the flags are held for TALK keys alone (R124, R125). -/
def keyAssignOf (k : RawKey) : Option (KeyId × KeyAssign) :=
  match indexOf 48 k.key, keyFnOf k with
  | some i, some (.talk t) => some (i, ⟨.talk t, k.noLatch, k.priority⟩)
  | some i, some f => some (i, ⟨f, false, false⟩)
  | _, _ => none

/-- A colour set: bits 0-3 for NONE, RED, GREEN and AMBER; a set naming anything else is out of range (R172). -/
def colourSetOf (k : Nat) : Option ColourSet :=
  if k < 16 then some ⟨k.testBit 0, k.testBit 1, k.testBit 2, k.testBit 3⟩ else none

/-- A GPI mapping, with the range checks of R168; a TALK target PORT(n) with n the talker port is out of range. -/
def gpiMapOf : RawGpiMap → Option GpiMap
  | .unmapped => some .unmapped
  | .forceRed s p =>
    match indexOf 128 s, prod3Of p with
    | some s, some p => some (.forceRed s p)
    | _, _ => none
  | .talk p t =>
    match indexOf 96 p, targetOf t with
    | some p, some t => if t = .port p then none else some (.talk p t)
    | _, _ => none
  | .arm d => (indexOf 64 d).map .arm
  | .other _ => none

/-- A GPO mapping, with the range checks of R172. -/
def gpoMapOf : RawGpoMap → Option GpoMap
  | .unmapped => some .unmapped
  | .tally s c v =>
    match indexOf 128 s, colourSetOf c, prod3Of v with
    | some s, some c, some v => some (.tally s c v)
    | _, _, _ => none
  | .talking p => (indexOf 96 p).map .talking
  | .fault => some .fault
  | .freeRun => some .freeRun
  | .other _ => none

/-- A rate setting 0-3, or 4 for AUTO (12.3). -/
def rateOf : Nat → Option RateSetting
  | 0 => some .r62500
  | 1 => some .r125000
  | 2 => some .r250000
  | 3 => some .r500000
  | 4 => some .auto
  | _ => none

/-- A salvo entry (R178). -/
def salvoEntryOf (e : RawEntry) : Option SalvoEntry :=
  match indexOf 64 e.dest, feedOf e.source with
  | some d, some f => some ⟨d, f⟩
  | _, _ => none

/-- Every element read, or none if one is out of range. -/
def allOf (f : α → Option β) : List α → Option (List β)
  | [] => some []
  | x :: xs =>
    match f x, allOf f xs with
    | some y, some ys => some (y :: ys)
    | _, _ => none

/-- An optional field read: absent, or present and in range; none where present and out of range. -/
def optOf (f : α → Option β) : Option α → Option (Option β)
  | none => some none
  | some x => (f x).map some

end Sys2Proof.Machine
end

