-- ==== Sys2Proof/Machine/Flags.lean ====
section
/-! DEFINITION. Counts, flags and sets that several blocks compute alike. -/

namespace Sys2Proof.Machine

/-- A count that holds at 65,535 once it reaches it (R56, R60, R111, R195, R199). -/
def bump (n : Nat) : Nat := if n < Config.countTop then n + 1 else Config.countTop

/-- A count that holds at 255 once it reaches it (R17, R112). -/
def bump255 (n : Nat) : Nat := if n < 255 then n + 1 else 255

/-- The value of a number that stops at 65,535 (R67, R68). -/
def stopAtTop (n : Nat) : Nat := min n Config.countTop

/-- Reference clocks as whole milliseconds. -/
def inMs (clocks : Nat) : Nat := clocks / Config.clocksPerMs

/-- Whole milliseconds from `now` to an expiry. -/
def msLeft (now expiry : Nat) : Nat := inMs (expiry - now)

/-- The position of a notice kind in the list of section 11.4. -/
def NoticeKind.code : NoticeKind → Nat
  | .tally => 0
  | .taken => 1
  | .destFault => 2
  | .lock => 3
  | .card => 4
  | .mixer => 5
  | .frame => 6
  | .roster => 7
  | .loop => 8
  | .talk => 9
  | .store => 10
  | .config => 11
  | .gap => 12

/-- The kind of a notice. -/
def Notice.kind : Notice → NoticeKind
  | .tally .. => .tally
  | .taken .. => .taken
  | .destFault .. => .destFault
  | .lock .. => .lock
  | .locksCleared .. => .lock
  | .card .. => .card
  | .mixer .. => .mixer
  | .frameLocked => .frame
  | .frameFreeRun .. => .frame
  | .roster .. => .roster
  | .loop .. => .loop
  | .talk .. => .talk
  | .store .. => .store
  | .config .. => .config
  | .gap .. => .gap

/-- Whether a kind is in a kind set (R194). -/
def inKinds (ks : BitVec 16) (k : NoticeKind) : Bool := ks.getLsbD k.code

/-- A kind set with one kind added (R195). -/
def addKind (ks : BitVec 16) (k : NoticeKind) : BitVec 16 := ks ||| (1#16 <<< k.code)

/-- Whether a notice passes the filter: its kind is in it, or it is GAP, or a TALK notice of LINK records (R194). -/
def passesFilter (filter : BitVec 16) (n : Notice) : Bool :=
  match n with
  | .gap .. => true
  | .talk true _ => true
  | n => inKinds filter n.kind

/-- The order RED above GREEN above AMBER above NONE (R85). -/
def Colour.rank : Colour → Nat
  | .red => 3
  | .green => 2
  | .amber => 1
  | .none => 0

/-- The higher of two colours (R85). -/
def Colour.higher (x y : Colour) : Colour := if x.rank < y.rank then y else x

/-- Whether a colour is in a colour set (R171). -/
def ColourSet.has (c : ColourSet) : Colour → Bool
  | .none => c.none
  | .red => c.red
  | .green => c.green
  | .amber => c.amber

/-- The identity that a take is checked under (R18). -/
def TakeOrigin.identity : TakeOrigin → Identity
  | .panel p => .panel p
  | .link => .link
  | .salvo _ r => r

/-- Whether a port is LIVE (R63). -/
def PortState.isLive : PortState → Bool
  | .live _ => true
  | .stale _ => false

/-- Whether a destination's state makes a path uncertain: RETRY or FAULTED (R82). -/
def DestState.unsure : DestState → Bool
  | .retry _ => true
  | .faulted => true
  | _ => false

/-- The class of a source is the class of its block, floor(s / 8) (R2). -/
def blockOf (s : SourceId) : BlockId := ⟨s.val / 8, by omega⟩

/-- The sources 8b to 8b+7 of a block, ascending (R2). -/
def sourcesOf (b : BlockId) : List SourceId := (indices 8).map fun i => ⟨b.val * 8 + i.val, by omega⟩

/-- The class of a source (R2). -/
def SourceMap.classAt (m : SourceMap) (s : SourceId) : FeedClass := m.classes.get (blockOf s)

/-- Tally eligibility for AMBER: CAMERA and REPLAY (R2, R80). -/
def FeedClass.amber : FeedClass → Bool
  | .camera => true
  | .replay => true
  | _ => false

/-- The video card of a destination, floor(destination / 16) (R39). -/
def videoCard (d : DestId) : CardId := ⟨d.val / 16, by omega⟩

/-- The audio card of a listener port, 4 + floor(port / 32) (R39). -/
def audioCard (p : PortId) : CardId := ⟨4 + p.val / 32, by omega⟩

/-- Whether a card's kind is VIDEO, fixed by its address (R40). -/
def isVideo (c : CardId) : Bool := c.val < 4

/-- The 16 destinations of a video card, ascending (chapter 3). -/
def destsOf (c : CardId) : List DestId := (indices 64).filter fun d => d.val / 16 == c.val

/-- The 32 listener ports of an audio card, ascending (chapter 3). -/
def portsOf (c : CardId) : List PortId := (indices 96).filter fun p => 4 + p.val / 32 == c.val

/-- The card a record goes to (R39). -/
def FabRec.card : FabRec → CardId
  | .video (.xset d _ _) => videoCard d
  | .video (.xquery d) => videoCard d
  | .aset r => audioCard r.port
  | .probe c => c

/-- The destination of a video record. -/
def VideoRec.dest : VideoRec → DestId
  | .xset d _ _ => d
  | .xquery d => d

end Sys2Proof.Machine
end

