-- ==== Sys2Proof/Machine/Encode.lean ====
section
/-! DEFINITION. The bytes of what the device sends to the host (chapter 12): field encodings (12.2, R203), reply bodies' building blocks,
and the fields of every notice (12.4). Log entry 20 names the layouts that R203 leaves to be read from the rules' wording. -/

namespace Sys2Proof.Machine

/-- A number in one byte. -/
def u8 (n : Nat) : List Byte := [byteOf n]
/-- A number in two bytes. -/
def u16 (n : Nat) : List Byte := word16 n
/-- A number in three bytes (a period in microseconds). -/
def u24 (n : Nat) : List Byte := [byteOf (n / 65536), byteOf (n / 256), byteOf n]
/-- One flag in a flags byte. -/
def flag (b : Bool) : List Byte := [bitsByte [b]]
/-- Flags, or presence bits, in one byte. -/
def flags (bs : List Bool) : List Byte := [bitsByte bs]
/-- An optional index: none is 0xFF. -/
def optIndex : Option (Fin n) → List Byte
  | none => [0xFF#8]
  | some i => u8 i.val
/-- A list: its count, then its entries (R203). -/
def listOf (f : α → List Byte) (xs : List α) : List Byte := u8 xs.length ++ xs.flatMap f
/-- An optional value, written where present. -/
def present? (f : α → List Byte) : Option α → List Byte
  | none => []
  | some x => f x

def prod2Code : Prod2 → Nat
  | .a => 0
  | .b => 1
def prod3Code : Prod3 → Nat
  | .a => 0
  | .b => 1
  | .both => 2
def classCode : FeedClass → Nat
  | .camera => 0
  | .replay => 1
  | .graphics => 2
  | .line => 3
  | .returned => 4
  | .utility => 5
def colourCode : Colour → Nat
  | .none => 0
  | .red => 1
  | .green => 2
  | .amber => 3
def cadenceCode : Cadence → Nat
  | .steady => 0
  | .slow => 1
  | .fast => 2
def resultCode : Result → Nat
  | .done => 0
  | .accepted => 1
  | .busy => 2
  | .locked => 3
  | .range => 4
  | .classed => 5
  | .full => 6
  | .absent => 7
  | .state => 8
  | .frame => 9
def rateCode : RateSetting → Nat
  | .r62500 => 0
  | .r125000 => 1
  | .r250000 => 2
  | .r500000 => 3
  | .auto => 4
def rosterStateCode : RosterState → Nat
  | .empty => 0
  | .joining => 1
  | .active => 2
  | .silent => 3
  | .lost => 4
def panelKindCode : PanelKind → Nat
  | .key => 0
  | .router => 1
  | .camera => 2
  | .combined => 3
/-- A fault or none, in the order R112 names them. -/
def lastFaultCode : Option LoopFault → Nat
  | some .noise => 0
  | some .framing => 1
  | some .overrun => 2
  | some .check => 3
  | some .timeout => 4
  | none => 5
def loopStateCode : LoopState → Nat
  | .disabled => 0
  | .starting .. => 1
  | .rateSearch .. => 2
  | .running => 3
  | .lineFault _ => 4
def resolutionCode : Resolution → Nat
  | .complete => 0
  | .partly => 1
  | .pending => 2
def branchCode : Branch → Nat
  | .a => 0
  | .b => 1
  | .key1 => 2
  | .key2 => 3
def pageStateCode : PageState → Nat
  | .empty => 0
  | .valid => 1
  | .bad => 2
def presenceCode : Presence → Nat
  | .unknown => 0
  | .present => 1
  | .absent => 2

/-- A lamp value character: colour in bits 0-1, cadence in bits 2-3; NONE with cadence bits 0 (12.6). -/
def lampByte : Lamp → Byte
  | .dark => 0#8
  | .lit c k => byteOf (colourCode c + 4 * cadenceCode k)

/-- An identity: loop and address, or 0xFF 0xFF for LINK (12.2). -/
def identityBytes : Identity → List Byte
  | .panel p => [byteOf p.loop.val, byteOf (addressOf p.addr)]
  | .link => [0xFF#8, 0xFF#8]
/-- A take's origin (12.2). -/
def takeOriginBytes : TakeOrigin → List Byte
  | .panel p => [0#8, byteOf p.loop.val, byteOf (addressOf p.addr), 0xFF#8]
  | .link => [1#8, 0xFF#8, 0xFF#8, 0xFF#8]
  | .salvo n r => 2#8 :: byteOf n.val :: identityBytes r
/-- A talk's origin (12.2). -/
def talkOriginBytes : TalkOrigin → List Byte
  | .panel p k => [0#8, byteOf p.loop.val, byteOf (addressOf p.addr), byteOf k.val]
  | .gpi n => [3#8, byteOf n.val, 0xFF#8, 0xFF#8]
  | .link => [1#8, 0xFF#8, 0xFF#8, 0xFF#8]
/-- A target (12.2). -/
def targetBytes : Target → List Byte
  | .port n => [0#8, byteOf n.val]
  | .group g => [1#8, byteOf g.val]
  | .follow p => [2#8, byteOf (prod2Code p)]
  | .ifb i => [3#8, byteOf i.val]
/-- A mixer reference, as 12.5 lays it out. The index byte of BLACK and MATTE, which 12.5 does not examine in a record received, is sent as 0
(log entry 20, DESIGN CHOICE). -/
def refBytes : Ref → List Byte
  | .input n => [0#8, byteOf n.val]
  | .stage k => [1#8, byteOf k.val]
  | .black => [2#8, 0#8]
  | .matte => [3#8, 0#8]
/-- A stage record, in the order of 12.5. -/
def stageBytes (r : StageRec) : List Byte :=
  refBytes r.aRef ++ refBytes r.bRef ++ u16 r.position ++ refBytes r.key1 ++ u16 r.gain1 ++ refBytes r.key2 ++ u16 r.gain2
/-- An input map entry: kind, index (12.3). The index byte of NONE, which 12.3 ignores in the request, is sent as 0 (log entry 20,
DESIGN CHOICE). -/
def inputEntryBytes : InputEntry → List Byte
  | .unused => [0#8, 0#8]
  | .routed d => [1#8, byteOf d.val]
  | .direct s => [2#8, byteOf s.val]
/-- A key's function and argument of 2 bytes (12.3). The argument bytes of NONE and LOCK, which have no argument, are sent as 0 (log entry
20, DESIGN CHOICE). -/
def keyFnBytes : KeyFn → List Byte
  | .unused => [0#8, 0#8, 0#8]
  | .talk t => 1#8 :: targetBytes t
  | .listen t => 2#8 :: targetBytes t
  | .dest d => [3#8, 0#8, byteOf d.val]
  | .source f => [4#8, 0#8] ++ optIndex f
  | .lock => [5#8, 0#8, 0#8]
  | .salvo n => [6#8, 0#8, byteOf n.val]
/-- A key assignment after its key number (12.3). -/
def keyAssignBytes (k : KeyAssign) : List Byte := keyFnBytes k.fn ++ flags [k.noLatch, k.priority]
/-- A contact's level, active or inactive: one byte, its position in that list of R164 and R170 (R203; log entry 20, DEDUCED: an
enumerated value of two, not a flag). -/
def levelBytes (active : Bool) : List Byte := u8 (if active then 0 else 1)
/-- A GPI mapping (R164, R203). -/
def gpiMapBytes : GpiMap → List Byte
  | .unmapped => [0#8]
  | .forceRed s p => [1#8, byteOf s.val, byteOf (prod3Code p)]
  | .talk n t => 2#8 :: byteOf n.val :: targetBytes t
  | .arm d => [3#8, byteOf d.val]
/-- A GPO mapping (R171, R203). -/
def gpoMapBytes : GpoMap → List Byte
  | .unmapped => [0#8]
  | .tally s c v => [1#8, byteOf s.val, bitsByte [c.none, c.red, c.green, c.amber], byteOf (prod3Code v)]
  | .talking p => [2#8, byteOf p.val]
  | .fault => [3#8]
  | .freeRun => [4#8]
/-- A destination's state, with the resend phase of RETRY (R15, R37). -/
def destStateBytes : DestState → List Byte
  | .verified => [0#8]
  | .inFlight => [1#8]
  | .retry sent => [2#8, byteOf (if sent then 1 else 0)]
  | .faulted => [3#8]
/-- A cut: cutting stage, branch, target stage (R77). -/
def cutBytes (c : Cut) : List Byte := [byteOf c.stage.val, byteOf (branchCode c.branch), byteOf c.target.val]
/-- A salvo entry: destination, source (12.3). -/
def salvoEntryBytes (e : SalvoEntry) : List Byte := byteOf e.dest.val :: optIndex e.source
/-- A cause of a talker list entry (R136, R203). -/
def causeBytes : Cause → List Byte
  | .talk i => [0#8, byteOf i.val]
  | .listen i => [1#8, byteOf i.val]
  | .program i => [2#8, byteOf i.val]
/-- A dim value (12.7). -/
def dimBytes : Dim → List Byte
  | none => [0xFF#8]
  | some d => u8 d.val
/-- An audio image: entry count, then talker and dim value of each (12.7). -/
def imageBytes (im : Image) : List Byte := listOf (fun x => byteOf x.1.val :: dimBytes x.2) im

/-! ## Notice fields (12.4) -/

/-- The changed map of a TALLY notice: bit (s mod 8) of byte floor(s / 8) for a changed source s. -/
def changedMap (cs : List TallyChange) : List Byte :=
  (indices 16).map fun j => bitsByte ((indices 8).map fun k => cs.any fun c => c.source.val == j.val * 8 + k.val)
/-- The status byte of a changed source: bits 0-1 colour, bit 2 forced, bit 3 uncertain. -/
def statusByte (c : TallyChange) : Byte :=
  byteOf (colourCode c.colour + (if c.forced then 4 else 0) + (if c.uncertain then 8 else 0))

def takenResultCode : TakenResult → Nat
  | .dispatched => 0
  | .locked => 1
  | .unchanged => 2
  | .superseded => 3
  | .range => 4
  | .classed => 5
/-- The 8 bytes of a TAKEN item. -/
def takenItemBytes (i : TakenItem) : List Byte :=
  u8 i.dest ++ u8 (takenResultCode i.result) ++ optIndex i.source ++ takeOriginBytes i.origin ++ u8 i.count
/-- The occasion of a TAKEN notice. -/
def occasionBytes : Occasion → List Byte
  | .frame => [0#8]
  | .recall n r => 1#8 :: byteOf n.val :: identityBytes r
  | .restart => [2#8]
def lockChangeCode : LockChange → Nat
  | .acquired => 0
  | .released => 1
  | .forced => 2
  | .deadlineSet => 3
  | .deadlineCleared => 4
  | .expired => 5
  | .cleared => 6
/-- The outcome of a DEST_FAULT notice: MISMATCH with the actual source, or TIMEOUT, as R30 names them. -/
def verifyBytes : Verify → List Byte
  | .mismatch f => 0#8 :: optIndex f
  | .timeout => [1#8]
  | .matched => []
/-- The record of a CARD notice's TIMEOUT: XSET, XQUERY or ASET with its destination or listener port (R54). -/
def lostRecordBytes : LostRecord → List Byte
  | .xset d => [0#8, byteOf d.val]
  | .xquery d => [1#8, byteOf d.val]
  | .aset p => [2#8, byteOf p.val]
def cardChangeBytes : CardChange → List Byte
  | .present => [0#8]
  | .absentProbe => [1#8, 0#8]
  | .absentTimeout r => 1#8 :: 1#8 :: lostRecordBytes r
  | .wrongKind audio => [2#8, byteOf (if audio then 1 else 0)]
/-- A MIXER notice's change and what it carries. R67 names STALE and LIVE, R78 CYCLE and CYCLE_CLEAR; the codes run on over the two lists
(log entry 20, DESIGN CHOICE). The record kind of LIVE is its position in R67's list, STAGE 0 and KEEP 1, and not its kind value in a frame
(log entry 20, DESIGN CHOICE). -/
def mixerChangeBytes : MixerChange → List Byte
  | .stale d a => 0#8 :: (u16 d ++ u16 a)
  | .live stage spent =>
    1#8 :: ((match stage with | some k => [0#8, byteOf k.val] | none => [1#8]) ++ flags [spent.isSome] ++ present? u16 spent)
  | .cycle c => 2#8 :: cutBytes c
  | .cycleClear => [3#8]
def rosterCauseCode : RosterCause → Nat
  | .enrol => 0
  | .reply => 1
  | .miss => 2
  | .line => 3
  | .search => 4
  | .holdExpiry => 5
  | .loopRestart => 6
  | .rate => 7
  | .disable => 8
  | .restart => 9
def identBytes (i : Ident) : List Byte := [byteOf (panelKindCode i.kind), byteOf i.keys, byteOf i.slots, byteOf i.revision]
/-- A ROSTER item; an item for an entry that entered JOINING carries what its IDENT gave. -/
def rosterItemBytes (i : RosterItem) : List Byte :=
  [byteOf (addressOf i.addr), byteOf (rosterStateCode i.before), byteOf (rosterStateCode i.after), byteOf i.missed,
    byteOf (lastFaultCode i.lastFault)] ++ present? identBytes i.ident
def faultedFromCode : FaultedFrom → Nat
  | .running => 0
  | .starting => 1
  | .rateSearch => 2
def loopChangeBytes : LoopChange → List Byte
  | .running r n t w => [0#8, byteOf (rateCode r)] ++ u16 n ++ u8 t ++ u16 w
  | .searchNoMark => [1#8, 0#8]
  | .searchRange c => [1#8, 1#8] ++ u24 c
  | .lineFault w => [2#8, byteOf (faultedFromCode w)]
  | .disabled => [3#8]
/-- The reason of an ENDED talk item: its position in R160's first list of reasons (R203). -/
def endReasonCode : EndReason → Nat
  | .release => 0
  | .unlatch => 1
  | .gpi => 2
  | .link => 3
  | .silent => 4
  | .lost => 5
  | .keymap => 6
  | .restart => 7
/-- The reason of a REFUSED talk item. R160's one field Reason has a list for ENDED and a list for REFUSED; the codes of the second begin at 0
again and do not run on after those of the first (log entry 20, DESIGN CHOICE). -/
def refuseReasonCode : RefuseReason → Nat
  | .noPort => 0
  | .target => 1
  | .full => 2
def talkChangeCode : TalkChange → Nat
  | .created _ => 0
  | .ended _ => 1
  | .resolution _ => 2
  | .refused _ => 3
/-- The resolution an item carries (R160). -/
def talkChangeResolution : TalkChange → Option Resolution
  | .created r => some r
  | .resolution r => some r
  | _ => none
/-- The code of the reason an item carries (R160). -/
def talkChangeReason : TalkChange → Option Nat
  | .ended r => some (endReasonCode r)
  | .refused r => some (refuseReasonCode r)
  | _ => none
/-- A TALK item: path, presence of number, resolution and reason, then the fields of R160 in order. R160 shows the number and the resolution
as absent for some changes; that the reason, which it gives for ENDED and REFUSED and does not show as absent, has a presence bit too is the
model's choice (log entry 20, DESIGN CHOICE). -/
def talkItemBytes (i : TalkItem) : List Byte :=
  u8 (if i.listen then 1 else 0)
    ++ flags [i.number.isSome, (talkChangeResolution i.change).isSome, (talkChangeReason i.change).isSome]
    ++ present? u8 i.number ++ talkOriginBytes i.origin ++ optIndex i.port ++ targetBytes i.target
    ++ u8 (talkChangeCode i.change) ++ present? (fun r => u8 (resolutionCode r)) (talkChangeResolution i.change)
    ++ present? u8 (talkChangeReason i.change)
/-- The kind and target page (0xFF for HEADER) of a store operation. -/
def storeJobBytes : StoreJob → List Byte
  | .write p _ => [0#8, byteOf p.val]
  | .erase p => [1#8, byteOf p.val]
  | .boot _ => [2#8, 0xFF#8]
/-- The outcome of a completed operation: VALID, EMPTY or BAD (R185). -/
def storeOutcomeCode : StoreJob → Bool → Nat
  | _, false => 2
  | .erase _, true => 1
  | _, true => 0
/-- The reason of a SKIPPED boot salvo: ABSENT, STATE, as R185 names them. -/
def skipReasonCode : Result → Nat
  | .absent => 0
  | _ => 1
def storeEventBytes : StoreEvent → List Byte
  | .start ps h => 0#8 :: (listOf (fun (p : SalvoId) => u8 p.val) ps ++ flag h)
  | .done t j good n b =>
    1#8 :: (u8 t ++ storeJobBytes j ++ u8 (storeOutcomeCode j good) ++ u8 n ++ (match j with | .boot _ => optIndex b | _ => []))
  | .recallRefused p n r => 2#8 :: (identityBytes (.panel p) ++ u8 n.val ++ u8 (resultCode r))
  | .staged n h e => 3#8 :: (u8 n.val ++ [0#8] ++ u8 h ++ u8 e)
  | .skipped n r => 3#8 :: (u8 n.val ++ [1#8] ++ u8 (skipReasonCode r))

/-- The field bytes of a notice (12.4). -/
def Notice.fields : Notice → List Byte
  | .tally p n cs => u8 (prod2Code p) ++ u16 n ++ changedMap cs ++ cs.map statusByte
  | .taken o is => occasionBytes o ++ listOf takenItemBytes is
  | .destFault d f o g => u8 d.val ++ optIndex f ++ verifyBytes o ++ flags [g.isSome] ++ present? takeOriginBytes g
  | .lock c o ds => u8 (lockChangeCode c) ++ identityBytes o ++ listOf (fun (d : DestId) => u8 d.val) ds
  | .locksCleared ls =>
    u8 (lockChangeCode .cleared) ++ (match ls with | [] => [] | x :: _ => identityBytes x.2)
      ++ listOf (fun (x : DestId × Identity) => byteOf x.1.val :: identityBytes x.2) ls
  | .card c ch => u8 c.val ++ u8 (if isVideo c then 0 else 1) ++ cardChangeBytes ch
  | .mixer p ch => u8 (prod2Code p) ++ mixerChangeBytes ch
  | .frameLocked => [0#8]
  | .frameFreeRun n => 1#8 :: u24 n
  | .roster l c is => u8 l.val ++ u8 (rosterCauseCode c) ++ listOf rosterItemBytes is
  | .loop l ch => u8 l.val ++ loopChangeBytes ch
  | .talk _ is => listOf talkItemBytes is
  | .store e => storeEventBytes e
  | .config t b ss gs => u8 t ++ u8 b.val ++ listOf (fun (s : SourceId) => u8 s.val) ss ++ listOf (fun (g : GpiId) => u8 g.val) gs
  | .gap n ks => u16 n ++ [ks.extractLsb' 8 8, ks.extractLsb' 0 8]

/-- The kind byte of a notice, from 0x41 (12.1). -/
def Notice.kindByte (n : Notice) : Nat := 0x41 + n.kind.code

/-- The kind byte of a reply (12.1). -/
def replyKind : Nat := 0x40

/-- The frame of a reply: result, kind answered, data (12.4). -/
def Reply.frame (r : Reply) : OutFrame :=
  { kind := replyKind, tag := r.tag, body := byteOf (resultCode r.result) :: byteOf r.kind :: r.data }

/-- The bytes of a frame on the line, sync byte first (12.1). -/
def OutFrame.bytes (f : OutFrame) : List Byte := Config.syncByte :: frameBytes (byteOf f.kind) (byteOf f.tag) f.body

/-- The part byte: bits 0-6 the part index, bit 7 on the last part (12.4). -/
def partByte (index : Nat) (last : Bool) : Byte := byteOf (index % 128 + if last then 128 else 0)

/-- One part of a notice as a frame: the first 247 field bytes of what is left (R204). -/
def partFrame (kind number index : Nat) (left : List Byte) : OutFrame :=
  { kind := kind, tag := number, body := partByte index (decide (left.length ≤ Config.partBytes)) :: left.take Config.partBytes }

/-- What stays to be sent after one part (R204). -/
def partRest (kind number index : Nat) (left : List Byte) : Option Continuation :=
  if left.length ≤ Config.partBytes then none
  else some { kind := kind, number := number, index := index + 1, rest := left.drop Config.partBytes }

end Sys2Proof.Machine
end

