-- ==== Sys2Proof/Machine/Ops.lean ====
section
/-! DEFINITION. The named operations over the device's parts: one update per block and per record, the clock, the frame receiver that
the control link and both mixer ports share, the notice queue, the transmitter of CL_TX, and the immediate replies (chapter 11). -/

namespace Sys2Proof.Machine

/-! ## Updates -/

def State.onLink (s : State) (f : Link → Link) : State := { s with link := f s.link }
def State.onMap (s : State) (f : SourceMap → SourceMap) : State := { s with map := f s.map }
def State.onXpt (s : State) (f : Crosspoint → Crosspoint) : State := { s with xpt := f s.xpt }
def State.onFabric (s : State) (f : Fabric → Fabric) : State := { s with fabric := f s.fabric }
/-- The fabric receiver's state replaced (R205). -/
def State.setFabricRx (s : State) (rx : FabricRx) : State := s.onFabric fun f => { f with rx := rx }
def State.onTalk (s : State) (f : Talk → Talk) : State := { s with talk := f s.talk }
def State.onGpio (s : State) (f : Gpio → Gpio) : State := { s with gpio := f s.gpio }
def State.onStore (s : State) (f : Store → Store) : State := { s with store := f s.store }
def State.onLamps (s : State) (f : Lamps → Lamps) : State := { s with lamps := f s.lamps }
/-- One mixer port replaced. -/
def State.setMixer (s : State) (p : Prod2) (m : MixerPort) : State := { s with mixers := s.mixers.set p m }
/-- One computation engine replaced. -/
def State.setEngine (s : State) (p : Prod2) (e : Engine) : State := { s with engines := s.engines.set p e }
/-- One loop controller replaced. -/
def State.setLoop (s : State) (l : LoopId) (x : Loop) : State := { s with loops := s.loops.set l x }
/-- One roster entry replaced. -/
def State.setEntry (s : State) (p : PanelId) (e : RosterEntry) : State := { s with roster := s.roster.setP p e }
/-- One key map entry replaced. -/
def State.setKeymap (s : State) (p : PanelId) (k : KeyMapEntry) : State := { s with keymap := s.keymap.setP p k }

/-- One destination record replaced. -/
def State.setDestRec (s : State) (d : DestId) (x : Dest) : State := s.onXpt fun k => { k with dests := k.dests.set d x }
/-- One card record replaced. -/
def State.setCard (s : State) (c : CardId) (x : Card) : State := s.onFabric fun f => { f with cards := f.cards.set c x }
/-- The destination record of `d`. -/
def State.dest (s : State) (d : DestId) : Dest := s.xpt.dests.get d
/-- The card record of `c`. -/
def State.card (s : State) (c : CardId) : Card := s.fabric.cards.get c
/-- The loop controller of `l`. -/
def State.loop (s : State) (l : LoopId) : Loop := s.loops.get l
/-- The roster entry of `p`. -/
def State.entry (s : State) (p : PanelId) : RosterEntry := s.roster.getP p
/-- The key map entry of `p`. -/
def State.keyMap (s : State) (p : PanelId) : KeyMapEntry := s.keymap.getP p

/-- Every element of a list acted on in turn. -/
def forEach (xs : List α) (f : State → α → State) (s : State) : State := xs.foldl f s

/-! ## The clock -/

/-- The moment a running timer expires: the clock stands at its expiry, or where it is already later. -/
def State.reach (s : State) (expiry : Nat) : State := { s with clock := max s.clock expiry }

/-! ## The notice queue and the transmitter (R194 to R197, R204) -/

/-- A notice joins the queue's end with the notice count's value as its number (R196). -/
def Link.enqueue (l : Link) (n : Notice) : Link :=
  { l with notices := l.notices ++ [⟨l.noticeCount, n⟩], noticeCount := (l.noticeCount + 1) % 256 }

/-- A notice offered to the queue: it joins, or it is dropped and counted for the GAP notice (R195). -/
def Link.offer (l : Link) (n : Notice) : Link :=
  if l.notices.length < Config.noticeRoom then l.enqueue n
  else { l with gapFlag := true, dropped := bump l.dropped, droppedKinds := addKind l.droppedKinds n.kind }

/-- The queue has gained room: a GAP notice joins where the flag is set (R195). -/
def Link.gainRoom (l : Link) : Link :=
  if l.gapFlag then { l.enqueue (.gap l.dropped l.droppedKinds) with gapFlag := false, dropped := 0, droppedKinds := 0 } else l

/-- The transmitter chooses its next frame where it is idle (R197, R204). -/
def Link.choose (l : Link) : Link :=
  if l.sending.isSome then l
  else
    match l.replies with
    | r :: rs => { l with replies := rs, sending := some r.reply.frame }
    | [] =>
      if l.serving then l
      else
        match l.continuation with
        | some c =>
          { l with sending := some (partFrame c.kind c.number c.index c.rest), continuation := partRest c.kind c.number c.index c.rest }
        | none =>
          match l.notices with
          | [] => l
          | q :: qs =>
            ({ l with
                notices := qs
                sending := some (partFrame q.notice.kindByte q.number 0 q.notice.fields)
                continuation := partRest q.notice.kindByte q.number 0 q.notice.fields } : Link).gainRoom

/-- A notice a block raises: held against the filter, offered to the queue, and begun at once where the transmitter is idle and no
request is in service (R194, R195, R197). -/
def Link.notify (l : Link) (n : Notice) : Link :=
  if passesFilter l.filter n then (l.offer n).choose else l

/-- A block raises a notice (R194). -/
def State.raise (s : State) (n : Notice) : State := s.onLink (·.notify n)

/-- A block raises a notice where a condition holds. -/
def State.raiseIf (s : State) (c : Bool) (n : Notice) : State := if c then s.raise n else s

/-! ## Replies the unit forms itself (R193) -/

/-- Whether the reply slot holds a reply (R191). -/
def Link.slotHeld (l : Link) : Bool := l.replies.any fun r => r.slot

/-- How many replies the immediate reply list holds (R193). -/
def Link.immediate (l : Link) : Nat := (l.replies.filter fun r => !r.slot).length

/-- The unit forms a reply at once, or counts it as unformed (R193); an idle transmitter begins it (R197). -/
def Link.refuse (l : Link) (r : Reply) : Link :=
  if l.immediate < Config.immediateRoom then ({ l with replies := l.replies ++ [⟨false, r⟩] } : Link).choose
  else { l with counts := { l.counts with unformed := bump l.counts.unformed } }

/-- The cause of a FRAME reply, in code order (12.4). -/
inductive FrameCause where
  | length
  | framing
  | gap
  | check
  | kind
  | body
deriving DecidableEq, Repr

def frameCauseCode : FrameCause → Nat
  | .length => 0
  | .framing => 1
  | .gap => 2
  | .check => 3
  | .kind => 4
  | .body => 5

/-- The discard count of a cause grows; BODY counts under KIND (R188, R189, R202). -/
def LinkCounts.discard (c : LinkCounts) : FrameCause → LinkCounts
  | .length => { c with length := bump c.length }
  | .framing => { c with framing := bump c.framing }
  | .gap => { c with gap := bump c.gap }
  | .check => { c with check := bump c.check }
  | .kind => { c with kind := bump c.kind }
  | .body => { c with kind := bump c.kind }

/-- A frame is answered FRAME with a tag, a kind field and a cause, and counted (R188, R189, R202). -/
def Link.frameReply (l : Link) (tag kind : Nat) (cause : FrameCause) : Link :=
  ({ l with counts := l.counts.discard cause } : Link).refuse
    { tag := tag, result := .frame, kind := kind, data := u8 (frameCauseCode cause) }

/-- A request offered to the queue: it joins, or is refused BUSY (R190). -/
def Link.offerRequest (l : Link) (tag : Nat) (r : Request) : Link :=
  if l.requests.length < Config.requestRoom then { l with requests := l.requests ++ [⟨tag, r⟩] }
  else ({ l with counts := { l.counts with busy := bump l.counts.busy } } : Link).refuse
    { tag := tag, result := .busy, kind := r.kind, data := [] }

/-! ## The frame receiver of CL_RX and the mixer ports (R55, R56, R187, R188) -/

/-- What a received byte brings about. -/
inductive RxEvent where
  | quiet
  | skipped
  | discarded (cause : FrameCause)
  | complete (kind tag : Byte) (body : List Byte)
deriving DecidableEq, Repr

/-- A frame receiver takes one byte; log entry 6: the gap timer also runs after the sync byte. -/
def Rx.take (rx : Rx) (now : Nat) (b : RxByte) : Rx × RxEvent :=
  match rx with
  | .hunting =>
    if b.stopOk ∧ b.value = Config.syncByte then (.collecting [] (now + Config.frameGap), .quiet) else (.hunting, .skipped)
  | .collecting bytes _ =>
    if b.stopOk then
      match bytes with
      | [] =>
        if 2 ≤ b.value.toNat ∧ b.value.toNat ≤ 250 then (.collecting [b.value] (now + Config.frameGap), .quiet)
        else (.hunting, .discarded .length)
      | len :: rest =>
        let all := len :: rest ++ [b.value]
        if all.length < len.toNat + 2 then (.collecting all (now + Config.frameGap), .quiet)
        else if byteSum all = 0 then
          match rest with
          | kind :: tag :: body => (.hunting, .complete kind tag body)
          | _ => (.hunting, .discarded .check)
        else (.hunting, .discarded .check)
    else (.hunting, .discarded .framing)

/-- Whether what a receiver has collected can go on to be this frame: it hunts, or holds a first part of it (log entry 3). -/
def Rx.awaits (rx : Rx) (kind tag : Byte) (body : List Byte) : Bool :=
  match rx with
  | .hunting => true
  | .collecting bytes _ => bytes.isPrefixOf (frameBytes kind tag body)

/-- The expiry of a running gap timer. -/
def Rx.gap : Rx → Option Nat
  | .hunting => none
  | .collecting _ g => some g

end Sys2Proof.Machine
end

