-- ==== Sys2Proof/Machine/Contacts.lean ====
section
/-! DEFINITION. The outputs of the GPIO unit (section 9.3): its copies of the conditions, changed by the reports of their owners, and the
evaluation of an output. -/

namespace Sys2Proof.Machine

/-- Whether a mapping's condition holds in the unit's copies (R171). -/
def Gpio.holds (g : Gpio) : GpoMap → Bool
  | .unmapped => false
  | .tally s cs .a => cs.has (g.colours.a.get s)
  | .tally s cs .b => cs.has (g.colours.b.get s)
  | .tally s cs .both => cs.has (g.combined.get s)
  | .talking p => g.talking.get p
  | .fault => g.faulted.cells.any id || g.absent.cells.any id
  | .freeRun => g.freeRun

/-- Which outputs a report makes the unit evaluate again (R171). -/
inductive Report where
  | delivery (p : Prod2)
  | talking
  | faults
  | frame
deriving DecidableEq, Repr

/-- Whether an output of a mapping watches the copy that a report changes (R171). -/
def Report.concerns : Report → GpoMap → Bool
  | .delivery p, .tally _ _ v => v == .both || v.includes p
  | .talking, .talking _ => true
  | .faults, .fault => true
  | .frame, .freeRun => true
  | _, _ => false

/-- The outputs that watch a report's copy evaluated again (R171). -/
def Gpio.evaluate (g : Gpio) (r : Report) : Gpio :=
  { g with outputs := g.outputs.map fun o => if r.concerns o.mapping then { o with active := g.holds o.mapping } else o }

/-- A destination has entered or left FAULTED (R16, R170). -/
def Gpio.tellFaulted (g : Gpio) (d : DestId) (on : Bool) : Gpio := ({ g with faulted := g.faulted.set d on } : Gpio).evaluate .faults

/-- A card has entered or left ABSENT (R40, R170). -/
def Gpio.tellAbsent (g : Gpio) (c : CardId) (on : Bool) : Gpio := ({ g with absent := g.absent.set c on } : Gpio).evaluate .faults

/-- The frame watcher has changed state (R22, R23, R170). -/
def Gpio.tellFrame (g : Gpio) (freeRun : Bool) : Gpio := ({ g with freeRun := freeRun } : Gpio).evaluate .frame

/-- The talk engine reports the talking condition of the ports (R158, R170). -/
def Gpio.tellTalking (g : Gpio) (talking : Tbl 96 Bool) : Gpio := ({ g with talking := talking } : Gpio).evaluate .talking

/-- A tally delivery of one production (R87, R170). -/
def Gpio.deliver (g : Gpio) (p : Prod2) (colours combined : Tbl 128 Colour) : Gpio :=
  ({ g with colours := g.colours.set p colours, combined := combined } : Gpio).evaluate (.delivery p)

end Sys2Proof.Machine
end

