-- ==== Sys2Proof/Machine/Tally.lean ====
section
/-! DEFINITION. The tally computation (chapter 5): snapshot and trigger, stage weights, the walk with its cuts, colours and flags, and the
combined view. Publication, which reaches other blocks, stands in Publish.lean. -/

namespace Sys2Proof.Machine

/-! ## Snapshot and trigger (R69, R70) -/

/-- Whether an input forces a source RED in a production (R167). -/
def Gpi.forces (g : Gpi) (s : SourceId) (p : Prod2) : Bool :=
  match g.mapping with
  | .forceRed s' q => g.level && s' == s && q.includes p
  | _ => false

/-- The forced set of a production (R167). -/
def Gpio.forcedSet (g : Gpio) (p : Prod2) : Tbl 128 Bool := .build 128 fun s => g.inputs.cells.any fun i => i.forces s p

/-- What a computation of a production starting now works on (R70). -/
def State.snapshot (s : State) (p : Prod2) : Snapshot where
  stages := (s.mixers.get p).table
  stale := !(s.mixers.get p).state.isLive
  inputs := s.map.inputs.get p
  dests := s.xpt.dests.map fun d => (d.expected, d.state)
  classes := s.map.classes
  attrs := s.map.attrs
  forced := s.gpio.forcedSet p
  thresholds := s.map.thresholds.get p

/-- A computation of a production starts (R70). -/
def State.startRun (s : State) (p : Prod2) : State :=
  s.setEngine p { s.engines.get p with running := some (s.snapshot p), again := false }

/-- A trigger reaches a production's engine: discarded before adoption, it starts an idle engine or sets AGAIN (R69, R72). -/
def State.trigger (s : State) (p : Prod2) : State :=
  let e := s.engines.get p
  if e.pendingAdoption then s
  else if e.running.isSome then s.setEngine p { e with again := true }
  else s.startRun p

/-- A trigger for one production where a condition holds. -/
def State.triggerIf (s : State) (c : Bool) (p : Prod2) : State := if c then s.trigger p else s

/-- One trigger for each production that a test names, A first. -/
def State.triggers (s : State) (f : Prod2 → Bool) : State := (s.triggerIf (f .a) .a).triggerIf (f .b) .b

/-! ## Stage weights (R74) -/

/-- A weight left under a keyer of gain g: floor(w * (1024 - g) / 1024). -/
def under (g w : Nat) : Nat := if g = 0 then w else w * (1024 - g) / 1024

/-- A stage's branches in the order A, B, key 1 fill, key 2 fill, each with its reference and weight; a keyer of gain 0 makes none. -/
def StageRec.branches (r : StageRec) : List (Branch × Ref × Nat) :=
  [(.a, r.aRef, under r.gain2 (under r.gain1 (1024 - r.position))), (.b, r.bRef, under r.gain2 (under r.gain1 r.position))]
    ++ (if r.gain1 = 0 then [] else [(.key1, r.key1, under r.gain2 r.gain1)])
    ++ (if r.gain2 = 0 then [] else [(.key2, r.key2, r.gain2)])

/-! ## The walk (R75 to R77) -/

/-- What a walk meets: a path that ends at a source, with its share and whether it ended through a destination in RETRY or FAULTED; or a
cut. -/
inductive WalkItem where
  | arrive (s : SourceId) (share : Nat) (unsure : Bool)
  | cut (c : Cut)
deriving DecidableEq, Repr

/-- An input reference resolved through the snapshot's map (R76). -/
def Snapshot.resolve (x : Snapshot) (n : InputId) (share : Nat) : List WalkItem :=
  match x.inputs.get n with
  | .unused => []
  | .direct s => [.arrive s share false]
  | .routed d =>
    match x.dests.get d with
    | (none, _) => []
    | (some s, st) => [.arrive s share st.unsure]

/-- The depth-first walk of stage `k` with share `share`, `path` being the stages from P to `k`, itself included (R75, R77). `fuel`
bounds the stages below `k`: three from P. -/
def Snapshot.walk (x : Snapshot) : Nat → List StageId → StageId → Nat → List WalkItem
  | fuel, path, k, share =>
    (x.stages.get k).branches.flatMap fun b =>
      let child := share * b.2.2 / 1024
      match b.2.1 with
      | .input n => x.resolve n child
      | .black => []
      | .matte => []
      | .stage j =>
        if path.contains j then [.cut ⟨k, b.1, j⟩]
        else
          match fuel with
          | 0 => []
          | f + 1 => x.walk f (path ++ [j]) j child
termination_by structural fuel => fuel

/-- The walk from the program stage P with share 1024 (R75). -/
def Snapshot.walkFromP (x : Snapshot) : List WalkItem := x.walk 3 [0] 0 Config.whole

/-- The snapshot of the preview walk: P's transition position taken as 1024 (R79). -/
def Snapshot.preview (x : Snapshot) : Snapshot :=
  { x with stages := x.stages.modify 0 fun r => { r with position := Config.whole } }

/-- What one item of a walk adds to a source's share. -/
def WalkItem.shareOf (s : SourceId) : WalkItem → Nat
  | .arrive s' n _ => if s' = s then n else 0
  | .cut _ => 0

/-- A source's share: the sum over the paths that end at it (R76). -/
def shareOf (items : List WalkItem) (s : SourceId) : Nat := (items.map (WalkItem.shareOf s)).sum

/-- Whether an item brings a source a share above 0 through a destination in RETRY or FAULTED (R82). -/
def WalkItem.doubts (s : SourceId) : WalkItem → Bool
  | .arrive s' n u => u && s' == s && decide (0 < n)
  | .cut _ => false

/-- The cuts of a walk, in the order met (R77). -/
def cutsOf (items : List WalkItem) : List Cut :=
  items.filterMap fun i =>
    match i with
    | .cut c => some c
    | .arrive .. => none

/-! ## Colours and flags (R80 to R82) -/

/-- Whether a destination marks a source as being recorded for a production: record flag and arm set, and carrying it (R80). -/
def Snapshot.records (x : Snapshot) (p : Prod2) (s : SourceId) (d : DestId) : Bool :=
  let a := x.attrs.get d
  a.record && a.arm && a.production.includes p && (x.dests.get d).1 == some s

/-- Whether some armed record destination of a production carries a source (R80). -/
def Snapshot.recorded (x : Snapshot) (p : Prod2) (s : SourceId) : Bool := (indices 64).any (x.records p s)

/-- The class of a source in the snapshot. -/
def Snapshot.classAt (x : Snapshot) (s : SourceId) : FeedClass := x.classes.get (blockOf s)

/-- A source's colour (R80). -/
def Snapshot.colour (x : Snapshot) (p : Prod2) (s : SourceId) (air preview : Nat) : Colour :=
  if x.classAt s = .utility then .none
  else if x.forced.get s ∨ x.thresholds.air ≤ air then .red
  else if x.thresholds.preview ≤ preview then .green
  else if (x.classAt s).amber ∧ x.recorded p s then .amber
  else .none

/-- The record that a computation gives a source, from its two walks (R80 to R82). -/
def Snapshot.record (x : Snapshot) (p : Prod2) (air preview : List WalkItem) (s : SourceId) : TallyRec where
  colour := x.colour p s (shareOf air s) (shareOf preview s)
  air := shareOf air s
  preview := shareOf preview s
  forced := x.forced.get s && x.classAt s != .utility
  uncertain := x.stale || !(cutsOf air).isEmpty || air.any (WalkItem.doubts s) || preview.any (WalkItem.doubts s)

/-- The records of a completed computation, and its cycle condition: the first cut of the air walk (R78, R79). -/
def Snapshot.compute (x : Snapshot) (p : Prod2) : Tbl 128 TallyRec × Option Cut :=
  let air := x.walkFromP
  let preview := x.preview.walkFromP
  (.build 128 (x.record p air preview), (cutsOf air).head?)

/-- Whether a source has changed between two records: colour, forced or uncertain differs (R83). -/
def TallyRec.changed (old new : TallyRec) : Bool :=
  old.colour != new.colour || old.forced != new.forced || old.uncertain != new.uncertain

/-- The changed sources of a publication, ascending (R84). -/
def tallyChanges (old new : Tbl 128 TallyRec) : List TallyChange :=
  (indices 128).filterMap fun s =>
    let r := new.get s
    if (old.get s).changed r then some ⟨s, r.colour, r.forced, r.uncertain⟩ else none

/-! ## The combined view (R85) -/

/-- The combined colour of a source. -/
def State.combinedColour (s : State) (x : SourceId) : Colour :=
  (s.engines.a.published.get x).colour.higher (s.engines.b.published.get x).colour

/-- The combined uncertain flag of a source. -/
def State.combinedUncertain (s : State) (x : SourceId) : Bool :=
  (s.engines.a.published.get x).uncertain || (s.engines.b.published.get x).uncertain

/-- A source's published colour in a view. -/
def State.viewColour (s : State) (v : Prod3) (x : SourceId) : Colour :=
  match v with
  | .a => (s.engines.a.published.get x).colour
  | .b => (s.engines.b.published.get x).colour
  | .both => s.combinedColour x

end Sys2Proof.Machine
end

