-- ==== Sys2Proof/Machine/Crosspoint.lean ====
section
/-! DEFINITION. The crosspoint controller (chapter 2) but for the frame event: acceptance of takes, the take list and superseded list,
verify outcomes, readbacks, adoption of records, and locks. -/

namespace Sys2Proof.Machine

/-! ## Questions to the source map -/

/-- Whether a production has an input ROUTED to a destination (R9). -/
def SourceMap.routes (m : SourceMap) (p : Prod2) (d : DestId) : Bool := (m.inputs.get p).cells.any (· == .routed d)

/-- Whether a take of a source to a destination breaks the RETURN rule (R6). -/
def SourceMap.breaksReturn (m : SourceMap) (f : Feed) (d : DestId) : Bool :=
  match f with
  | none => false
  | some s => m.classAt s == .returned && (m.routes .a d || m.routes .b d)

/-- One trigger for each production that routes a destination (R29). -/
def State.triggerRouting (s : State) (d : DestId) : State := s.triggers fun p => s.map.routes p d

/-! ## The take list (R17, R18) -/

/-- Whether a lock keeps an identity away: held by another owner, and the take not forced (R18). -/
def lockBars (lock : Option Lock) (who : Identity) (forced : Bool) : Bool :=
  match lock with
  | none => false
  | some k => k.owner != who && !forced

/-- The check of a take whose destination and source lie in range: the first result that fails, or none (R18). -/
def State.checkTake (s : State) (d : DestId) (f : Feed) (o : TakeOrigin) (forced : Bool) : Option Result :=
  if s.map.breaksReturn f d then some .classed
  else if lockBars (s.dest d).lock o.identity forced then some .locked
  else none

/-- A replaced entry goes to the superseded list, kept in ascending destination order (R17, R26). -/
def supersede (xs : List Superseded) (e : TakeEntry) : List Superseded :=
  match xs with
  | [] => [⟨e.dest, e.source, e.origin, 1⟩]
  | x :: rest =>
    if x.dest = e.dest then ⟨e.dest, e.source, e.origin, bump255 x.count⟩ :: rest
    else if e.dest < x.dest then ⟨e.dest, e.source, e.origin, 1⟩ :: x :: rest
    else x :: supersede rest e

/-- The take list entry of a destination (R17). -/
def Crosspoint.takeFor (x : Crosspoint) (d : DestId) : Option TakeEntry := x.takes.find? fun e => e.dest == d

/-- An accepted take joins the list's end, or replaces its destination's entry in place (R17). -/
def Crosspoint.enter (x : Crosspoint) (e : TakeEntry) : Crosspoint :=
  match x.takeFor e.dest with
  | none => { x with takes := x.takes ++ [e] }
  | some old =>
    { x with takes := x.takes.map (fun t => if t.dest = e.dest then e else t), superseded := supersede x.superseded old }

/-- A take reaches the controller: entered, or refused with a result (R18). -/
def State.offerTake (s : State) (d : DestId) (f : Feed) (o : TakeOrigin) (forced : Bool) : State × Option Result :=
  match s.checkTake d f o forced with
  | some r => (s, some r)
  | none => (s.onXpt (·.enter ⟨d, f, o, forced⟩), none)

/-- A refused entry of a recalled group, with its result (R21). -/
structure RefusedEntry where
  entry : SalvoEntry
  result : Result
deriving DecidableEq, Repr

/-- A recall's group taken whole, entry by entry in stored order; the refused entries in that order (R21). -/
def State.offerGroup (s : State) (n : SalvoId) (who : Identity) (es : List SalvoEntry) : State × List RefusedEntry :=
  es.foldl
    (fun acc e =>
      match acc.1.offerTake e.dest e.source (.salvo n who) false with
      | (t, none) => (t, acc.2)
      | (t, some r) => (t, acc.2 ++ [⟨e, r⟩]))
    (s, [])

/-- The result of a TAKEN item for a refused recall entry (R26, 12.4). -/
def takenResultOf : Result → TakenResult
  | .locked => .locked
  | .range => .range
  | _ => .classed

/-- The item of a refused recall entry (R26). -/
def RefusedEntry.item (n : SalvoId) (who : Identity) (r : RefusedEntry) : TakenItem :=
  { dest := r.entry.dest.val, result := takenResultOf r.result, source := r.entry.source, origin := .salvo n who, count := 0 }

/-- The TAKEN notice of occasion RECALL, raised for a non-empty refused list (R21). -/
def State.raiseRefused (s : State) (n : SalvoId) (who : Identity) (rs : List RefusedEntry) : State :=
  s.raiseIf (!rs.isEmpty) (.taken (.recall n who) (rs.map (RefusedEntry.item n who)))

/-! ## Verify outcomes and readbacks (R28 to R32) -/

/-- RETRY with resend WAITING and retry count 1. -/
def Dest.toRetry (x : Dest) : Dest := { x with state := .retry false, retryCount := 1 }

/-- A destination's outcome applied (R28, R29, R30). -/
def State.applyOutcome (s : State) (d : DestId) (bit : Bool) (o : Verify) : State :=
  let x := s.dest d
  if x.seq != bit then s
  else
    match x.state, o with
    | .inFlight, .matched => s.setDestRec d { x with state := .verified }
    | .inFlight, _ => (s.setDestRec d x.toRetry).triggerRouting d
    | .retry true, .matched => (s.setDestRec d { x with state := .verified }).triggerRouting d
    | .retry true, o =>
      (((s.setDestRec d { x with state := .faulted }).triggerRouting d).onGpio (·.tellFaulted d true)).raise
        (.destFault d x.expected o x.lastOrigin)
    | _, _ => s

/-- A readback from a returning card applied (R31). -/
def State.applyReadback (s : State) (d : DestId) (actual : Feed) : State :=
  let x := s.dest d
  match x.state with
  | .verified => if actual = x.expected then s else (s.setDestRec d x.toRetry).triggerRouting d
  | .faulted =>
    (((if actual = x.expected then s.setDestRec d { x with state := .verified } else s.setDestRec d x.toRetry).triggerRouting d)).onGpio
      (·.tellFaulted d false)
  | .retry false => if actual = x.expected then (s.setDestRec d { x with state := .verified }).triggerRouting d else s
  | .retry true => s
  | .inFlight => s

/-- A destination adopts the source its card holds (R32). -/
def State.adoptDest (s : State) (d : DestId) (actual : Feed) : State :=
  (s.setDestRec d { s.dest d with expected := actual, state := .verified }).onGpio (·.tellFaulted d false)

/-- A destination of a card that did not answer: PARKED and FAULTED (R32). -/
def State.adoptAbsent (s : State) (d : DestId) : State :=
  (s.setDestRec d { s.dest d with expected := none, state := .faulted }).onGpio (·.tellFaulted d true)

/-! ## Locks (R33 to R36) -/

/-- The lock of a destination replaced. -/
def State.setLock (s : State) (d : DestId) (k : Option Lock) : State := s.setDestRec d { s.dest d with lock := k }

/-- A lock taken by an owner, with its notice (R33, R34). -/
def State.acquireLock (s : State) (d : DestId) (who : Identity) : State :=
  (s.setLock d (some ⟨who, none⟩)).raise (.lock .acquired who [d])

/-- A lock removed, with its notice (R33, R34). -/
def State.removeLock (s : State) (d : DestId) (who : Identity) (change : LockChange) : State :=
  (s.setLock d none).raise (.lock change who [d])

/-- Whether a destination's lock belongs to an owner and satisfies a test of its deadline. -/
def Dest.lockedBy (x : Dest) (who : Identity) (f : Option Nat → Bool) : Bool :=
  match x.lock with
  | some k => k.owner == who && f k.deadline
  | none => false

/-- The destinations whose locks belong to an owner and satisfy a test of the deadline, ascending. -/
def State.locksOf (s : State) (who : Identity) (f : Option Nat → Bool) : List DestId :=
  (indices 64).filter fun d => (s.dest d).lockedBy who f

/-- An entry enters LOST: its locks receive a deadline (R35). -/
def State.locksLost (s : State) (p : PanelId) : State :=
  let ds := s.locksOf (.panel p) fun _ => true
  (forEach ds (fun s d => s.setLock d (some ⟨.panel p, some (s.clock + Config.lockGrace)⟩)) s).raiseIf (!ds.isEmpty)
    (.lock .deadlineSet (.panel p) ds)

/-- An entry enters ACTIVE: its locks lose their deadlines (R35). -/
def State.locksActive (s : State) (p : PanelId) : State :=
  let ds := s.locksOf (.panel p) (·.isSome)
  (forEach ds (fun s d => s.setLock d (some ⟨.panel p, none⟩)) s).raiseIf (!ds.isEmpty) (.lock .deadlineCleared (.panel p) ds)

/-- The earliest deadline among an owner's locks. -/
def State.firstDeadline (s : State) (who : Identity) : Option Nat :=
  (s.locksOf who (·.isSome)).foldl
    (fun m d =>
      match (s.dest d).lock with
      | some ⟨_, some t⟩ => some (match m with | none => t | some m => min m t)
      | _ => m)
    none

/-- The locks of one owner whose deadline expires at one moment are removed, with one notice (R35, R36). -/
def State.locksExpire (s : State) (who : Identity) (t : Nat) : State :=
  let ds := s.locksOf who fun x => x == some t
  (forEach ds (fun s d => s.setLock d none) s).raiseIf (!ds.isEmpty) (.lock .expired who ds)

/-! ## Panel presses (R20, R34) -/

/-- A press of a DEST key selects its destination (R20). -/
def State.pressDest (s : State) (p : PanelId) (d : DestId) : State := s.setEntry p { s.entry p with selected := some d }

/-- A key's refused-press display is set or cleared (R127). -/
def State.setRefused (s : State) (p : PanelId) (k : KeyId) (on : Bool) : State :=
  s.onLamps fun l => { l with refused := l.refused.setP p ((l.refused.getP p).set k on) }

/-- A press of a SOURCE key takes its source to the selected destination; ignored or refused, it shows as refused (R20). -/
def State.pressSource (s : State) (p : PanelId) (k : KeyId) (f : Feed) : State :=
  match (s.entry p).selected with
  | none => s.setRefused p k true
  | some d =>
    match s.offerTake d f (.panel p) false with
    | (t, none) => t
    | (t, some _) => t.setRefused p k true

/-- A press of a LOCK key (R34). -/
def State.pressLock (s : State) (p : PanelId) : State :=
  match (s.entry p).selected with
  | none => s
  | some d =>
    match (s.dest d).lock with
    | none => s.acquireLock d (.panel p)
    | some k => if k.owner = .panel p then s.removeLock d (.panel p) .released else s

/-! ## RESTART (R38) -/

/-- The item of a take list entry emptied by RESTART. -/
def TakeEntry.emptied (e : TakeEntry) : TakenItem := ⟨e.dest.val, .superseded, e.source, e.origin, 0⟩
/-- The item of a superseded list record (R26). -/
def Superseded.item (x : Superseded) : TakenItem := ⟨x.dest.val, .superseded, x.source, x.origin, x.count⟩

/-- Every lock with its owner, in ascending destination order. -/
def State.allLocks (s : State) : List (DestId × Identity) :=
  (indices 64).filterMap fun d => ((s.dest d).lock).map fun k => (d, k.owner)

/-- The crosspoint controller's RESTART effects (R38). -/
def State.restartCrosspoint (s : State) : State :=
  let items := s.xpt.takes.map TakeEntry.emptied ++ s.xpt.superseded.map Superseded.item
  let locks := s.allLocks
  ((((s.onXpt fun x => { x with takes := [], superseded := [] }).raiseIf (!items.isEmpty) (.taken .restart items)).onXpt fun x =>
    { x with dests := x.dests.map fun d => { d with lock := none } })).raiseIf (!locks.isEmpty) (.locksCleared locks)

end Sys2Proof.Machine
end

