-- ==== Sys2Proof/Machine/Salvo.lean ====
section
/-! DEFINITION. The salvo store (chapter 10): operations, recalls, boot staging and the start-up scan. -/

namespace Sys2Proof.Machine

/-- Whether a page is being programmed (R181). -/
def Store.programming (x : Store) (n : SalvoId) : Bool :=
  match x.state with
  | .operating (.write p _) _ _ => p == n
  | .operating (.erase p) _ _ => p == n
  | _ => false

/-- Whether the store is STARTING. -/
def Store.isStarting (x : Store) : Bool := x.state == .starting

/-- Whether a recall or a read of a page is refused BUSY (R181). -/
def Store.busyFor (x : Store) (n : SalvoId) : Bool := x.isStarting || x.programming n

/-- A page replaced. -/
def Store.setPage (x : Store) (n : SalvoId) (p : Page) : Store := { x with pages := x.pages.set n p }

/-- The entry list that a write forms: a later entry for a destination replaces the earlier one's source in place (R178). -/
def formEntries (es : List SalvoEntry) : List SalvoEntry :=
  es.foldl
    (fun acc e => if acc.any (fun x => x.dest == e.dest) then acc.map (fun x => if x.dest = e.dest then e else x) else acc ++ [e]) []

/-- An operation starts: attempt 1, and the target's in-progress mark is written (R177). -/
def Store.begin (x : Store) (j : StoreJob) (tag : Nat) : Store :=
  let x := { x with state := .operating j false tag }
  match j with
  | .write p _ => x.setPage p { x.pages.get p with mark := true }
  | .erase p => x.setPage p { x.pages.get p with mark := true }
  | .boot _ => { x with header := { x.header with mark := true } }

/-- The target of an operation as its end leaves it (R177). -/
def Store.finish (x : Store) (j : StoreJob) (good : Bool) : Store :=
  let x := { x with state := .idle }
  match j, good with
  | .write p es, true => x.setPage p { state := .valid, entries := es, mark := false }
  | .erase p, true => x.setPage p { state := .empty, entries := [], mark := false }
  | .boot v, true => { x with header := { boot := v, bad := false, mark := false } }
  | .write p _, false => x.setPage p { state := .bad, entries := [], mark := false }
  | .erase p, false => x.setPage p { state := .bad, entries := [], mark := false }
  | .boot _, false => { x with header := { boot := none, bad := true, mark := false } }

/-- The committed value of the boot header; a BAD header names none (R175). -/
def BootHeader.committed (h : BootHeader) : Option SalvoId := if h.bad then none else h.boot

/-- Why a page cannot be recalled, in the order of R182: BUSY, ABSENT, STATE. -/
def Store.recallRefusal (x : Store) (n : SalvoId) : Option Result :=
  if x.busyFor n then some .busy
  else
    match (x.pages.get n).state with
    | .empty => some .absent
    | .bad => some .state
    | .valid => none

/-- The staging of the boot salvo, due once adoption has completed and the start-up scan has ended; it waits while its page is being
programmed (R184). -/
def State.stageBoot (s : State) : State :=
  if s.store.bootPending && s.xpt.adopted && !s.store.isStarting then
    match s.store.header.committed with
    | none => s.onStore fun x => { x with bootPending := false }
    | some n =>
      if s.store.programming n then s
      else
        let s := s.onStore fun x => { x with bootPending := false }
        let page := s.store.pages.get n
        match page.state with
        | .empty => s.raise (.store (.skipped n .absent))
        | .bad => s.raise (.store (.skipped n .state))
        | .valid =>
          let (t, refused) := s.offerGroup n .link page.entries
          (t.raiseRefused n .link refused).raise (.store (.staged n page.entries.length (page.entries.length - refused.length)))
  else s

/-- A press of a SALVO key: a recall with the panel as recaller, or a refused press (R183). -/
def State.pressSalvo (s : State) (p : PanelId) (k : KeyId) (n : SalvoId) : State :=
  match s.store.recallRefusal n with
  | some r => (s.setRefused p k true).raise (.store (.recallRefused p n r))
  | none =>
    let (t, refused) := s.offerGroup n (.panel p) (s.store.pages.get n).entries
    t.raiseRefused n (.panel p) refused

/-- The start-up scan: every marked page, and a marked header, becomes BAD and its mark is cleared (R176). -/
def Store.scanned (x : Store) : Store :=
  { x with
    state := .idle
    pages := x.pages.map fun p => if p.mark then { state := .bad, entries := [], mark := false } else p
    header := if x.header.mark then { boot := none, bad := true, mark := false } else x.header }

/-- The pages found marked, ascending (R176). -/
def Store.marked (x : Store) : List SalvoId := (indices 48).filter fun n => (x.pages.get n).mark

/-- The scan ends: the store is IDLE, with a START notice where anything was marked, and a waiting boot salvo is staged (R176, R184). -/
def State.scanEnds (s : State) : State :=
  let marked := s.store.marked
  let header := s.store.header.mark
  ((s.onStore Store.scanned).raiseIf (!marked.isEmpty || header) (.store (.start marked header))).stageBoot

/-- One programming completes and is read back (R177); a boot salvo that waits for the page is then staged (R184). -/
def State.programmed (s : State) (agrees : Bool) : State :=
  match s.store.state with
  | .operating j second tag =>
    if !agrees && !second then s.onStore fun x => { x with state := .operating j true tag }
    else
      let t := s.onStore fun x => x.finish j agrees
      (t.raise (.store (.done tag j agrees (if second then 2 else 1) t.store.header.committed))).stageBoot
  | _ => s

end Sys2Proof.Machine
end

