-- ==== Sys2Proof/Machine/FabricLine.lean ====
section
/-! DEFINITION. The fabric line controller (chapter 3): the send queue, the exchange table, the card table, adoption, and its transmitter. -/

namespace Sys2Proof.Machine

/-! ## The audio matrix image (R159) -/

/-- The dim depth an entry is sent with: its IFB circuit's while its dim flag is set, and none otherwise (R156, R159). -/
def Talk.dimOf (t : Talk) (e : TalkerEntry) : Dim :=
  if e.dim then
    e.causes.findSome? fun c =>
      match c with
      | .program i => some (t.circuits.get i).dim
      | _ => none
  else none

/-- Insertion into an image in ascending talker order. -/
def Image.insert (x : PortId × Dim) : Image → Image
  | [] => [x]
  | y :: ys => if x.1 ≤ y.1 then x :: y :: ys else y :: Image.insert x ys

/-- The image of a listener record (R159). -/
def Talk.imageOf (t : Talk) (l : Listener) : Image := l.talkers.foldr (fun e im => Image.insert (e.talker, t.dimOf e) im) []

/-- The image of a listener port as it now stands (R159). -/
def Talk.image (t : Talk) (p : PortId) : Image := t.imageOf (t.listeners.get p)

/-! ## The send queue (R41, R43 to R45) -/

/-- A video record joins the video part, or replaces its destination's queued record in place (R41, R43). -/
def queueVideo (q : List VideoRec) (r : VideoRec) : List VideoRec :=
  if q.any (fun x => x.dest == r.dest) then q.map (fun x => if x.dest = r.dest then r else x) else q ++ [r]

/-- An ASET joins the audio part, or replaces its port's queued ASET in place (R41, R45). -/
def queueAudio (q : List Aset) (r : Aset) : List Aset :=
  if q.any (fun x => x.port == r.port) then q.map (fun x => if x.port = r.port then r else x) else q ++ [r]

/-- Whether a record is an XSET for a destination. -/
def FabRec.isXset (r : FabRec) (d : DestId) : Bool :=
  match r with
  | .video (.xset d' _ _) => d' == d
  | _ => false

/-- An XSET for a destination that is being sent or is outstanding is marked superseded (R43). -/
def Fabric.supersede (f : Fabric) (d : DestId) : Fabric :=
  { f with
    sending := f.sending.map fun x => if x.record.isXset d then { x with superseded := true } else x
    exchanges := f.exchanges.modify (videoCard d) fun e => e.map fun x => if x.record.isXset d then { x with superseded := true } else x }

/-- The crosspoint controller hands an XSET: queued, or answered TIMEOUT at once where its card is ABSENT (R43). -/
def State.handXset (s : State) (d : DestId) (f : Feed) (seq : Bool) : State :=
  match (s.card (videoCard d)).presence with
  | .absent => s.applyOutcome d seq .timeout
  | _ => s.onFabric fun x => { x.supersede d with video := queueVideo x.video (.xset d f seq) }

/-- An XQUERY is queued unless its destination already has a queued video record (R44). -/
def Fabric.queueQuery (f : Fabric) (d : DestId) : Fabric :=
  if f.video.any (fun x => x.dest == d) then f else { f with video := f.video ++ [.xquery d] }

/-- The talk engine tells a changed listener port: its ASET is queued while its card is PRESENT (R45). -/
def State.handAset (s : State) (p : PortId) : State :=
  if (s.card (audioCard p)).presence = .present then
    s.onFabric fun f => { f with audio := queueAudio f.audio ⟨p, s.talk.image p⟩ }
  else s

/-- An ASET is queued for each of an audio card's listener ports (R50, R52, R53). -/
def State.handImages (s : State) (c : CardId) : State := forEach (portsOf c) State.handAset s

/-! ## Adoption (R51, R52) -/

/-- Whether every card has left UNKNOWN and every adoption progress is empty (R52). -/
def Fabric.adoptionDone (f : Fabric) : Bool := f.cards.cells.all fun c => c.presence != .unknown && c.progress.isEmpty

/-- An engine's adoption-pending flag is cleared and its first computation starts (R72). -/
def State.adoptTally (s : State) (p : Prod2) : State :=
  (s.setEngine p { s.engines.get p with pendingAdoption := false }).startRun p

/-- Adoption completes where it now can: the controller honours frame events, the boot salvo is staged, and both engines start
(R32, R52, R72, R184). -/
def State.checkAdoption (s : State) : State :=
  if !s.xpt.adopted && s.fabric.adoptionDone then
    (((s.onXpt fun x => { x with adopted := true }).stageBoot).adoptTally .a).adoptTally .b
  else s

/-! ## Absence and return (R47 to R52) -/

/-- The XSETs and XQUERYs of a card leave the video part. -/
def Fabric.dropCard (f : Fabric) (c : CardId) : Fabric :=
  { f with video := f.video.filter (fun r => videoCard r.dest != c), audio := f.audio.filter (fun r => audioCard r.port != c) }

/-- A card's removed video record: an XSET is reported as TIMEOUT, an XQUERY is dropped (R47). -/
def State.reportRemoved (s : State) (r : VideoRec) : State :=
  match r with
  | .xset d _ seq => s.applyOutcome d seq .timeout
  | .xquery _ => s

/-- Each destination still in a card's adoption progress is reported as belonging to an absent card, and the progress is emptied (R52). -/
def State.abandonAdoption (s : State) (c : CardId) : State :=
  let left := (s.card c).progress
  forEach left State.adoptAbsent (s.setCard c { s.card c with progress := [] })

/-- A card becomes ABSENT (R47, R52). -/
def State.becomeAbsent (s : State) (c : CardId) (change : CardChange) : State :=
  let removed := s.fabric.video.filter fun r => videoCard r.dest == c
  let s := s.setCard c { s.card c with presence := .absent, timeouts := 0, complaint := false }
  let s := forEach removed State.reportRemoved (s.onFabric (·.dropCard c))
  let s := (s.onGpio (·.tellAbsent c true)).raise (.card c change)
  (s.setCard c { s.card c with probe := some (s.clock + Config.probeInterval) }).abandonAdoption c

/-- The kind complaint is set, with its notice, where it was clear (R48). -/
def State.complain (s : State) (c : CardId) (audio : Bool) : State :=
  if (s.card c).complaint then s else (s.setCard c { s.card c with complaint := true }).raise (.card c (.wrongKind audio))

/-- A card becomes PRESENT, by its adoption probe or a later one (R49 to R51). -/
def State.becomePresent (s : State) (c : CardId) : State :=
  ((s.setCard c { s.card c with presence := .present, timeouts := 0, probe := none, complaint := false }).onGpio
    (·.tellAbsent c false)).raise (.card c .present)

/-- The queries or images queued for a card that has become PRESENT; in adoption a VIDEO card's destinations are its progress
(R49, R50, R52). -/
def State.welcome (s : State) (c : CardId) (adoption : Bool) : State :=
  if isVideo c then
    let s := s.onFabric fun f => (destsOf c).foldl Fabric.queueQuery f
    if adoption then s.setCard c { s.card c with progress := destsOf c } else s
  else s.handImages c

/-- The adoption probe of a card has failed: it becomes ABSENT, and a VIDEO card's destinations are PARKED and FAULTED (R51). -/
def State.failProbe (s : State) (c : CardId) : State :=
  let s := s.becomeAbsent c .absentProbe
  if isVideo c then forEach (destsOf c) State.adoptAbsent s else s

/-- A PRESENT that closes a PROBE (R48 to R51). At a wrong-kind answer during adoption ABSENT precedes WRONG_KIND (log entry 16,
DEDUCED). -/
def State.probeAnswered (s : State) (c : CardId) (audio : Bool) : State :=
  let matching := audio == !isVideo c
  let adoption := (s.card c).presence == .unknown
  if matching then (s.becomePresent c).welcome c adoption
  else if adoption then (s.failProbe c).complain c audio
  else (s.setCard c { s.card c with probe := some (s.clock + Config.probeInterval) }).complain c audio

/-! ## Exchanges (R39, R42 to R46) -/

/-- An exchange is closed: it leaves the table. -/
def State.closeExchange (s : State) (c : CardId) : State := s.onFabric fun f => { f with exchanges := f.exchanges.set c none }

/-- A closing answer sets the card's timeout count to 0 (R39). -/
def State.closeAnswered (s : State) (c : CardId) : State := (s.closeExchange c).setCard c { s.card c with timeouts := 0 }

/-- The transmitter finishes its record: the exchange is outstanding, with its reply timer (R39, R42). -/
def State.recordSent (s : State) : State :=
  match s.fabric.sending with
  | none => s
  | some x =>
    s.onFabric fun f =>
      { f with
        sending := none
        exchanges := f.exchanges.set x.record.card
          (some { record := x.record, superseded := x.superseded, expiry := s.clock + Config.fabricReply }) }

/-- The outcome of an XSET whose card reports a source (R43). -/
def outcomeOf (sent actual : Feed) : Verify := if actual = sent then .matched else .mismatch actual

/-- An XECHO whose fields name a destination, a source or PARKED, and a sequence bit (R39, R43, R44, R52). -/
def State.takeXecho (s : State) (d : DestId) (actual : Feed) (seq : Bool) : State :=
  let c := videoCard d
  match s.fabric.exchanges.get c with
  | none => s
  | some x =>
    match x.record with
    | .video (.xset d' f b) =>
      if d' = d ∧ b = seq then
        let s := s.closeAnswered c
        if x.superseded then s else s.applyOutcome d b (outcomeOf f actual)
      else s
    | .video (.xquery d') =>
      if d' = d then
        let s := s.closeAnswered c
        if (s.card c).progress.contains d then
          ((s.setCard c { s.card c with progress := (s.card c).progress.filter (· != d) }).adoptDest d actual).checkAdoption
        else s.applyReadback d actual
      else s
    | _ => s

/-- An AACK for a listener port (R39, R45). -/
def State.takeAack (s : State) (p : PortId) : State :=
  match s.fabric.exchanges.get (audioCard p) with
  | some ⟨.aset r, _, _⟩ => if r.port = p then s.closeAnswered (audioCard p) else s
  | _ => s

/-- A PRESENT from a card (R39, R48 to R51). -/
def State.takePresent (s : State) (c : CardId) (audio : Bool) : State :=
  match s.fabric.exchanges.get c with
  | some ⟨.probe _, _, _⟩ => ((s.closeAnswered c).probeAnswered c audio).checkAdoption
  | _ => s

/-- A received card record: taken where its fields are in range and it fits, and discarded as stray otherwise (R39, R205). -/
def State.takeRecord (s : State) (r : CardRecord) : State :=
  match r with
  | .xecho d a q =>
    match indexOf 64 d, feedOf a with
    | some d, some f => s.takeXecho d f (q % 2 == 1)
    | _, _ => s
  | .aack p =>
    match indexOf 96 p with
    | some p => s.takeAack p
    | none => s
  | .present c k =>
    match indexOf 7 c with
    | some c => if k ≤ 1 then s.takePresent c (k == 1) else s
    | none => s

/-- The receiver takes bytes that arrive back to back, the first after an idle gap or not, and with them perhaps completes a record (R205).
A gap makes an unfinished record stray and the first byte after it begins a record; a type that no card sends makes the record stray at
its type byte; bytes without a gap after a complete or stray record are skipped. Every byte counts as well received (LineBytes; log entry 3, DESIGN CHOICE). -/
def FabricRx.take (rx : FabricRx) (x : LineBytes) : FabricRx × Option CardRecord :=
  let held : Option (List Byte) :=
    if x.afterGap then some x.bytes
    else
      match rx with
      | .awaitingGap => none
      | .collecting got => some (got ++ x.bytes)
  match held with
  | none => (.awaitingGap, none)
  | some [] => (.collecting [], none)
  | some (type :: rest) =>
    match cardRecordLength type with
    | none => (.awaitingGap, none)
    | some n =>
      if n ≤ (type :: rest).length then (.awaitingGap, decodeCardRecord (type :: rest)) else (.collecting (type :: rest), none)

/-- A whole record of a card arrives after an idle gap: what follows it without a gap is skipped (R205). -/
def State.wholeRecord (s : State) (r : CardRecord) : State := (s.setFabricRx .awaitingGap).takeRecord r

/-- A timed-out exchange counts against its card: the first of two is remembered, the second makes the card ABSENT (R45, R46). -/
def State.countTimeout (s : State) (c : CardId) (r : LostRecord) (first : State → State) : State :=
  if (s.card c).timeouts = 0 then first (s.setCard c { s.card c with timeouts := 1 }) else s.becomeAbsent c (.absentTimeout r)

/-- A card's exchange has timed out (R39, R43 to R48, R51, R52). -/
def State.exchangeTimedOut (s : State) (c : CardId) (x : Exchange) : State :=
  let s := s.closeExchange c
  match x.record with
  | .video (.xset d _ b) =>
    (if x.superseded then s else s.applyOutcome d b .timeout).countTimeout c (.xset d) id
  | .video (.xquery d) =>
    s.countTimeout c (.xquery d) fun s => if (s.card c).progress.contains d then s.onFabric (·.queueQuery d) else s
  | .aset r => s.countTimeout c (.aset r.port) fun s => s.setCard c { s.card c with owed := some r }
  | .probe _ =>
    if (s.card c).presence = .unknown then s.failProbe c
    else s.setCard c { s.card c with probe := some (s.clock + Config.probeInterval) }

/-! ## The transmitter (R42) -/

/-- Whether the device may send a card a record: no exchange of it is outstanding (R39). -/
def Fabric.free (f : Fabric) (c : CardId) : Bool := (f.exchanges.get c).isNone

/-- Whether a queued record is eligible: its card is PRESENT and has no exchange outstanding (R42). -/
def Fabric.eligible (f : Fabric) (c : CardId) : Bool := (f.cards.get c).presence == .present && f.free c

/-- The first element that passes a test, with the list without it. -/
def extractFirst (t : α → Bool) : List α → Option (α × List α)
  | [] => none
  | x :: xs => if t x then some (x, xs) else (extractFirst t xs).map fun y => (y.1, x :: y.2)

/-- A record is begun. -/
def Fabric.begin (f : Fabric) (r : FabRec) : Fabric := { f with sending := some ⟨r, false⟩ }

/-- The lowest card that is owed a second send, with its ASET (R42, R45). -/
def Fabric.firstOwed (f : Fabric) : Option (CardId × Aset) :=
  (indices 7).findSome? fun c =>
    match (f.cards.get c).owed with
    | some r => if f.free c then some (c, r) else none
    | none => none

/-- The lowest card to which a PROBE is due (R42). -/
def Fabric.firstProbe (f : Fabric) : Option CardId := (indices 7).find? fun c => f.probesDue.get c && f.free c

/-- The transmitter chooses its next record where it is idle (R42). -/
def Fabric.choose (f : Fabric) : Fabric :=
  if f.sending.isSome then f
  else
    match f.firstOwed with
    | some (c, r) => { f with cards := f.cards.modify c fun k => { k with owed := none } }.begin (.aset r)
    | none =>
      match f.firstProbe with
      | some c => { f with probesDue := f.probesDue.set c false }.begin (.probe c)
      | none =>
        match extractFirst (fun r => f.eligible (videoCard r.dest)) f.video with
        | some (r, rest) => { f with video := rest }.begin (.video r)
        | none =>
          match extractFirst (fun r => f.eligible (audioCard r.port)) f.audio with
          | some (r, rest) => { f with audio := rest }.begin (.aset r)
          | none => f

/-! ## RESTART (R53) -/

/-- The fabric line controller's RESTART effect: the images of every PRESENT audio card are queued (R53). -/
def State.restartFabric (s : State) : State :=
  forEach ((indices 7).filter fun c => !isVideo c && (s.card c).presence == .present) State.handImages s

end Sys2Proof.Machine
end

