-- ==== Sys2Proof/Machine/Frames.lean ====
section
/-! DEFINITION. Frame events (section 2.4) and the frame watcher that makes them (section 2.3). -/

namespace Sys2Proof.Machine

/-- What a dispatch has done so far: the state, the notice's items, and the destinations dispatched. -/
structure Dispatched where
  state : State
  items : List TakenItem
  dests : List DestId
deriving DecidableEq, Repr

/-- A take list entry's item (R26). -/
def TakeEntry.item (e : TakeEntry) (r : TakenResult) : TakenItem := ⟨e.dest.val, r, e.source, e.origin, 0⟩

/-- What becomes of a take list entry at a frame event (R24). -/
def State.dispatchResult (s : State) (e : TakeEntry) : TakenResult :=
  let x := s.dest e.dest
  if lockBars x.lock e.origin.identity e.forced then .locked
  else if x.state = .verified ∧ e.source = x.expected then .unchanged
  else .dispatched

/-- The record of a dispatched destination (R24). -/
def Dest.dispatch (x : Dest) (e : TakeEntry) : Dest :=
  { x with expected := e.source, state := .inFlight, retryCount := 0, seq := !x.seq, lastOrigin := some e.origin }

/-- An entry is dispatched: its record moves, the GPIO unit is told of a change out of FAULTED, and its XSET is handed (R24, R30). -/
def State.dispatch (s : State) (e : TakeEntry) : State :=
  let x := s.dest e.dest
  let s := s.setDestRec e.dest (x.dispatch e)
  let s := if x.state = .faulted then s.onGpio (·.tellFaulted e.dest false) else s
  s.handXset e.dest e.source (!x.seq)

/-- One take list entry taken at a frame event (R24). -/
def Dispatched.take (w : Dispatched) (e : TakeEntry) : Dispatched :=
  let r := w.state.dispatchResult e
  if r = .dispatched then ⟨w.state.dispatch e, w.items ++ [e.item r], w.dests ++ [e.dest]⟩
  else { w with items := w.items ++ [e.item r] }

/-- A destination in RETRY with resend WAITING that was not dispatched at this event is handed its retry (R25). -/
def State.retry (s : State) (d : DestId) : State :=
  let x := s.dest d
  (s.setDestRec d { x with state := .retry true, seq := !x.seq }).handXset d x.expected (!x.seq)

/-- The destinations that a frame event's retries go to, ascending (R25). -/
def State.retries (s : State) (dispatched : List DestId) : List DestId :=
  (indices 64).filter fun d => (s.dest d).state == .retry false && !dispatched.contains d

/-- Whether a dispatched destination concerns a production's tally (R27). -/
def SourceMap.concerns (m : SourceMap) (p : Prod2) (d : DestId) : Bool :=
  let a := m.attrs.get d
  m.routes p d || (a.record && a.arm && a.production.includes p)

/-- A frame event: the take list is emptied, the retries are sent, the TAKEN notice is raised, and the dispatch's triggers follow
(R24 to R27); nothing before adoption completes (R32). -/
def State.frameEvent (s : State) : State :=
  if s.xpt.adopted then
    let w := s.xpt.takes.foldl Dispatched.take ⟨s.onXpt fun x => { x with takes := [] }, [], []⟩
    let t := forEach (w.state.retries w.dests) State.retry w.state
    let items := s.xpt.superseded.map Superseded.item ++ w.items
    let t := (t.onXpt fun x => { x with superseded := [] }).raiseIf (!items.isEmpty) (.taken .frame items)
    t.triggers fun p => w.dests.any (t.map.concerns p)
  else s

/-- The watcher replaced. -/
def State.setWatcher (s : State) (w : Watcher) : State := s.onXpt fun x => { x with watcher := w }

/-- A pulse: the period is measured in LOCKED, the loss timer restarts, and in FREE_RUN the watcher returns to LOCKED with its notice
(R22, R23). -/
def State.pulse (s : State) : State :=
  let w := s.xpt.watcher
  match w.state with
  | .locked _ =>
    (s.setWatcher
      { w with
        state := .locked (s.clock + Config.frameLoss)
        measured := match w.lastPulse with | some t => some (s.clock - t) | none => w.measured
        lastPulse := some s.clock }).frameEvent
  | .freeRun _ =>
    (((s.setWatcher { w with state := .locked (s.clock + Config.frameLoss), lastPulse := some s.clock }).frameEvent).raise
      .frameLocked).onGpio (·.tellFrame false)

/-- The free-run period that a loss of the reference sets (R22). -/
def Watcher.chosenPeriod (w : Watcher) : Nat :=
  match w.measured with
  | some n => if Config.periodMin ≤ n ∧ n ≤ Config.periodMax then n else Config.periodDefault
  | none => Config.periodDefault

/-- The loss timer expires in LOCKED: the watcher enters FREE_RUN, which is a frame event (R22). -/
def State.frameLost (s : State) : State :=
  let w := s.xpt.watcher
  let n := w.chosenPeriod
  (((s.setWatcher { w with state := .freeRun (s.clock + n), freePeriod := n }).frameEvent).raise
    (.frameFreeRun (n / Config.clocksPerMicrosecond))).onGpio (·.tellFrame true)

/-- The free-run period timer expires: a frame event, and the next expiry one period on (R22). -/
def State.freeRunTick (s : State) : State :=
  let w := s.xpt.watcher
  match w.state with
  | .freeRun e => (s.setWatcher { w with state := .freeRun (e + w.freePeriod) }).frameEvent
  | .locked _ => s

end Sys2Proof.Machine
end

