-- ==== Sys2Proof/Machine/TalkEngine.lean ====
section
/-! DEFINITION. The talk engine (chapter 8): resolution, placement at a listener, resolving again and ending, talk keys, GPI and host talks,
groups and IFB circuits. -/

namespace Sys2Proof.Machine

/-! ## Causes and placements (R136) -/

/-- The order of causes in a cause set: TALK ascending, LISTEN ascending, PROGRAM ascending. -/
def Cause.rank : Cause → Nat
  | .talk i => i.val
  | .listen i => 128 + i.val
  | .program i => 192 + i.val

/-- A cause joins a cause set, in order and once. -/
def addCause (c : Cause) : List Cause → List Cause
  | [] => [c]
  | x :: xs => if x = c then x :: xs else if c.rank < x.rank then c :: x :: xs else x :: addCause c xs

/-- How a record stands at a port (R136). -/
inductive Placement where
  | placed
  | waiting
  | excluded
deriving DecidableEq, Repr

/-- How a talker's cause stands at a listener (R136). -/
def Listener.placement (l : Listener) (talker : PortId) (c : Cause) : Placement :=
  if l.talkers.any fun e => e.talker == talker && e.causes.contains c then .placed
  else if l.waits.any fun w => w.talker == talker && w.cause == c then .waiting
  else .excluded

/-- Whether an entry is protected: a PROGRAM cause, or the TALK cause of a priority talk (R136). -/
def Talk.protects (t : Talk) (e : TalkerEntry) : Bool :=
  e.causes.any fun c =>
    match c with
    | .program _ => true
    | .talk i => match t.talks.get i with | some r => r.priority | none => false
    | .listen _ => false

/-! ## Placement, displacement, removal and promotion at one listener (R140 to R142) -/

/-- A listener record after a change, with the creation count and the causes whose placement the change moved, in the order made. -/
structure Moved where
  listener : Listener
  creation : BitVec 32
  causes : List Cause
deriving DecidableEq, Repr

/-- The newest unprotected entry: the last in creation order (R140). -/
def newestOpen (prot : TalkerEntry → Bool) (es : List TalkerEntry) : Option TalkerEntry := es.reverse.find? fun e => !prot e

/-- The wait list with a displaced entry's causes at its front, cut to its room (R141). -/
def Listener.pushWaits (l : Listener) (e : TalkerEntry) : List WaitEntry :=
  (e.causes.map (fun c => (⟨e.talker, c⟩ : WaitEntry)) ++ l.waits).take Config.listRoom

/-- A record placed at a listener by R140's steps. -/
def Listener.place (l : Listener) (prot : TalkerEntry → Bool) (creation : BitVec 32) (talker : PortId) (c : Cause) (priority : Bool) :
    Moved :=
  let entry : TalkerEntry := { talker := talker, causes := [c], dim := false, creation := creation }
  let waits : Moved :=
    if l.waits.length < Config.listRoom then ⟨{ l with waits := l.waits ++ [⟨talker, c⟩] }, creation, []⟩ else ⟨l, creation, []⟩
  if l.talkers.any fun e => e.talker == talker then
    ⟨{ l with talkers := l.talkers.map fun e => if e.talker = talker then { e with causes := addCause c e.causes } else e }, creation, []⟩
  else if l.talkers.length < Config.listRoom then ⟨{ l with talkers := l.talkers ++ [entry] }, creation + 1, []⟩
  else if priority && !l.waits.any fun w => w.talker == talker then
    match newestOpen prot l.talkers with
    | some e =>
      ⟨{ talkers := l.talkers.filter (fun x => x.talker != e.talker) ++ [entry], waits := l.pushWaits e }, creation + 1,
        e.causes ++ (l.waits.drop (Config.listRoom - e.causes.length)).map fun w => w.cause⟩
    | none => waits
  else waits

/-- The front of the wait list is promoted into a freed place, with every other waiting cause of its talker (R142). -/
def Listener.promote (l : Listener) (creation : BitVec 32) : Moved :=
  match l.waits with
  | [] => ⟨l, creation, []⟩
  | w :: _ =>
    if l.talkers.length < Config.listRoom then
      let gathered := (l.waits.filter fun x => x.talker == w.talker).map fun x => x.cause
      ⟨{ talkers := l.talkers ++ [{ talker := w.talker, causes := gathered.foldl (fun cs c => addCause c cs) [], dim := false, creation := creation }]
         waits := l.waits.filter fun x => x.talker != w.talker }, creation + 1, gathered⟩
    else ⟨l, creation, []⟩

/-- A cause is taken out of a listener record; whether a place was freed (R142). -/
def Listener.take (l : Listener) (talker : PortId) (c : Cause) : Listener × Bool :=
  let waits := l.waits.filter fun w => !(w.talker == talker && w.cause == c)
  let reduced := l.talkers.map fun e => if e.talker = talker then { e with causes := e.causes.filter (· != c) } else e
  let kept := reduced.filter fun e => !(e.talker == talker && e.causes.isEmpty)
  (⟨kept, waits⟩, decide (kept.length < l.talkers.length))

/-- A cause is removed, and a freed place promotes the front of the wait list (R142). -/
def Listener.remove (l : Listener) (creation : BitVec 32) (talker : PortId) (c : Cause) : Moved :=
  let (l', freed) := l.take talker c
  if freed then l'.promote creation else ⟨l', creation, []⟩

/-! ## Work of one event -/

/-- What one event does in the talk engine: its state as it goes, the source map it looks up, the TALK items in the order of the changes,
the listener ports whose image changed in the order of their first change, and the records whose passes are under way. -/
structure Work where
  talk : Talk
  map : SourceMap
  items : List TalkItem
  told : List PortId
  busy : List Cause
deriving DecidableEq, Repr

/-- The dim flags of a listener port: set on the entry that holds PROGRAM(i) while a talk to IFB(i) stands IN there (R156). -/
def Talk.dimmed (t : Talk) (l : Listener) (e : TalkerEntry) : Bool :=
  e.causes.any fun c =>
    match c with
    | .program i =>
      l.talkers.any fun x =>
        x.causes.any fun d =>
          match d with
          | .talk k => match t.talks.get k with | some r => r.target == .ifb i | none => false
          | _ => false
    | _ => false

/-- A listener record with its dim flags set again (R156). -/
def Talk.redim (t : Talk) (l : Listener) : Listener := { l with talkers := l.talkers.map fun e => { e with dim := t.dimmed l e } }

/-- The placements of a talk at its listeners (R134, R136). -/
def Talk.talkPlacements (t : Talk) (id : TalkId) (r : TalkRec) : List Placement :=
  r.listeners.map fun p => (t.listeners.get p).placement r.talker (.talk id)

/-- The placements of a listen's talkers (R135, R136). -/
def Talk.listenPlacements (t : Talk) (id : ListenId) (r : ListenRec) : List Placement :=
  r.talkers.map fun p => (t.listeners.get r.listener).placement p (.listen id)

/-- The resolution that placements give (R143). -/
def resolutionOf (ps : List Placement) : Resolution :=
  if ps.isEmpty then .pending else if ps.all (· == .placed) then .complete else .partly

/-- The TALK item of a talk record (R160). -/
def TalkRec.item (r : TalkRec) (id : TalkId) (change : TalkChange) : TalkItem :=
  { listen := false, number := some id.val, origin := r.origin, port := some r.talker, target := r.target, change := change }

/-- The TALK item of a listen record (R160). -/
def ListenRec.item (r : ListenRec) (id : ListenId) (change : TalkChange) : TalkItem :=
  { listen := true, number := some id.val, origin := r.origin, port := some r.listener, target := r.target, change := change }

def Work.onTalk (w : Work) (f : Talk → Talk) : Work := { w with talk := f w.talk }
def Work.setTalk (w : Work) (id : TalkId) (r : Option TalkRec) : Work := w.onTalk fun t => { t with talks := t.talks.set id r }
def Work.setListen (w : Work) (id : ListenId) (r : Option ListenRec) : Work := w.onTalk fun t => { t with listens := t.listens.set id r }
def Work.emit (w : Work) (i : TalkItem) : Work := { w with items := w.items ++ [i] }
def Work.begin (w : Work) (c : Cause) : Work := { w with busy := c :: w.busy }
def Work.done (w : Work) (c : Cause) : Work := { w with busy := w.busy.filter (· != c) }
/-- A listener port whose image has changed, once. -/
def Work.tell (w : Work) (p : PortId) : Work := if w.told.contains p then w else { w with told := w.told ++ [p] }

/-- A record's resolution reassessed after a change of its placements, with its item where it changed (R143, R160). -/
def Work.reassess (w : Work) (c : Cause) : Work :=
  if w.busy.contains c then w
  else
    match c with
    | .talk id =>
      match w.talk.talks.get id with
      | some r =>
        let n := resolutionOf (w.talk.talkPlacements id r)
        if n = r.resolution then w else (w.setTalk id (some { r with resolution := n })).emit (r.item id (.resolution n))
      | none => w
    | .listen id =>
      match w.talk.listens.get id with
      | some r =>
        let n := resolutionOf (w.talk.listenPlacements id r)
        if n = r.resolution then w else (w.setListen id (some { r with resolution := n })).emit (r.item id (.resolution n))
      | none => w
    | .program _ => w

/-- A listener record written after a change: its dim flags are set again, its port is told where its image changed, and the moved
records are reassessed (R143, R156, R159). -/
def Work.settle (w : Work) (p : PortId) (m : Moved) : Work :=
  let before := w.talk.image p
  let w := w.onTalk fun t => { t with listeners := t.listeners.set p (t.redim m.listener), creation := m.creation }
  let w := if w.talk.image p = before then w else w.tell p
  m.causes.foldl Work.reassess w

/-- A record is placed at a listener port (R140). -/
def Work.place (w : Work) (p talker : PortId) (c : Cause) (priority : Bool) : Work :=
  w.settle p ((w.talk.listeners.get p).place w.talk.protects w.talk.creation talker c priority)

/-- A cause is removed from a listener port (R142). -/
def Work.remove (w : Work) (p talker : PortId) (c : Cause) : Work :=
  w.settle p ((w.talk.listeners.get p).remove w.talk.creation talker c)

/-! ## Resolution (R138, R139) -/

/-- The camera ports of CAMERA sources of a colour, ascending (R138). -/
def cameraPorts (m : SourceMap) (colours : Tbl 128 Colour) (c : Colour) : List PortId :=
  (indices 96).filter fun p =>
    (indices 128).any fun s => m.classAt s == .camera && colours.get s == c && m.cameraPort.get s == some p

/-- The listeners that FOLLOW names: the RED cameras' ports, or where there are none the GREEN ones' (R138). -/
def followPorts (m : SourceMap) (colours : Tbl 128 Colour) : List PortId :=
  let reds := cameraPorts m colours .red
  if reds.isEmpty then cameraPorts m colours .green else reds

/-- The listener ports a talk's target resolves to, ascending, less the talker's own (R138). -/
def Work.resolve (w : Work) (talker : PortId) : Target → List PortId
  | .port n => if n = talker then [] else [n]
  | .group g => (indices 96).filter fun p => (w.talk.groups.get g).contains p && p != talker
  | .ifb i =>
    match (w.talk.circuits.get i).talent with
    | some n => if n = talker then [] else [n]
    | none => []
  | .follow p => (followPorts w.map (w.talk.colours.get p)).filter (· != talker)

/-- Whether a target is invalid for a talker (R138). -/
def Talk.invalidTarget (t : Talk) (talker : PortId) : Target → Bool
  | .port n => n == talker
  | .group _ => false
  | .follow _ => false
  | .ifb i =>
    match (t.circuits.get i).talent with
    | some n => n == talker
    | none => true

/-- A listen's talker set, in the group's order, less the listener port itself (R135, R139). -/
def Work.resolveListen (w : Work) (listener : PortId) : Target → List PortId
  | .port n => if n = listener then [] else [n]
  | .group g => (w.talk.groups.get g).filter (· != listener)
  | _ => []

/-! ## Creating and ending (R134, R135, R145) -/

/-- The lowest free talk number. -/
def Talk.freeTalk (t : Talk) : Option TalkId := (indices 128).find? fun i => (t.talks.get i).isNone
/-- The lowest free listen number. -/
def Talk.freeListen (t : Talk) : Option ListenId := (indices 64).find? fun i => (t.listens.get i).isNone

/-- A talk is created under a free number, resolved and placed (R134, R138, R140, R143). -/
def Work.createTalk (w : Work) (id : TalkId) (talker : PortId) (target : Target) (origin : TalkOrigin) (priority : Bool) : Work :=
  let c : Cause := .talk id
  let ports := w.resolve talker target
  let r : TalkRec := { talker := talker, target := target, origin := origin, priority := priority, resolution := .pending, listeners := ports }
  let w := ports.foldl (fun w p => w.place p talker c priority) ((w.setTalk id (some r)).begin c)
  let n := resolutionOf (w.talk.talkPlacements id r)
  ((w.setTalk id (some { r with resolution := n })).emit (r.item id (.created n))).done c

/-- A listen is created under a free number, resolved and placed (R135, R139, R140, R143). -/
def Work.createListen (w : Work) (id : ListenId) (listener : PortId) (target : Target) (origin : TalkOrigin) : Work :=
  let c : Cause := .listen id
  let ports := w.resolveListen listener target
  let r : ListenRec := { listener := listener, target := target, origin := origin, resolution := .pending, talkers := ports }
  let w := ports.foldl (fun w p => w.place listener p c false) ((w.setListen id (some r)).begin c)
  let n := resolutionOf (w.talk.listenPlacements id r)
  ((w.setListen id (some { r with resolution := n })).emit (r.item id (.created n))).done c

/-- A talk ends: its cause leaves every listener, then the record leaves its table (R145). -/
def Work.endTalk (w : Work) (id : TalkId) (reason : EndReason) : Work :=
  match w.talk.talks.get id with
  | none => w
  | some r =>
    let c : Cause := .talk id
    let w := r.listeners.foldl (fun w p => w.remove p r.talker c) (w.begin c)
    ((w.setTalk id none).emit (r.item id (.ended reason))).done c

/-- A listen ends: its waiting causes leave first, then its causes in the talker list, in the order of its talker set (R145). -/
def Work.endListen (w : Work) (id : ListenId) (reason : EndReason) : Work :=
  match w.talk.listens.get id with
  | none => w
  | some r =>
    let c : Cause := .listen id
    let w := w.begin c
    let l := w.talk.listeners.get r.listener
    let w := w.settle r.listener ⟨{ l with waits := l.waits.filter fun x => x.cause != c }, w.talk.creation, []⟩
    let w := r.talkers.foldl (fun w p => w.remove r.listener p c) w
    ((w.setListen id none).emit (r.item id (.ended reason))).done c

/-! ## Resolving again (R144, R157) -/

/-- The leaving pass of a talk: each held port that the new set lacks is taken out (R144). -/
def Work.leaveTalk (w : Work) (id : TalkId) : Work :=
  match w.talk.talks.get id with
  | none => w
  | some r =>
    let c : Cause := .talk id
    let new := w.resolve r.talker r.target
    let leaving := r.listeners.filter fun p => !new.contains p
    let w := (w.begin c).setTalk id (some { r with listeners := r.listeners.filter fun p => new.contains p })
    leaving.foldl (fun w p => w.remove p r.talker c) w

/-- The staying and joining passes of a talk, and its reassessment (R144). Its staying EXCLUDED listeners are placed again in the held
order (log entry 21, DESIGN CHOICE). -/
def Work.joinTalk (w : Work) (id : TalkId) : Work :=
  match w.talk.talks.get id with
  | none => w
  | some r =>
    let c : Cause := .talk id
    let new := w.resolve r.talker r.target
    let joining := new.filter fun p => !r.listeners.contains p
    let w := r.listeners.foldl
      (fun w p => if (w.talk.listeners.get p).placement r.talker c = .excluded then w.place p r.talker c r.priority else w) w
    let w := joining.foldl (fun w p => w.place p r.talker c r.priority) (w.setTalk id (some { r with listeners := new }))
    (w.done c).reassess c

/-- A talk is resolved again (R144). -/
def Work.reresolveTalk (w : Work) (id : TalkId) : Work := (w.leaveTalk id).joinTalk id

/-- A listen is resolved again (R144). Its staying EXCLUDED talkers are placed again in the held order (log entry 21, DESIGN CHOICE: R144
orders the first and third passes of a listen alone). -/
def Work.reresolveListen (w : Work) (id : ListenId) : Work :=
  match w.talk.listens.get id with
  | none => w
  | some r =>
    let c : Cause := .listen id
    let new := w.resolveListen r.listener r.target
    let staying := r.talkers.filter fun p => new.contains p
    let w := (r.talkers.filter fun p => !new.contains p).foldl (fun w p => w.remove r.listener p c)
      ((w.begin c).setListen id (some { r with talkers := staying }))
    let w := staying.foldl
      (fun w p => if (w.talk.listeners.get r.listener).placement p c = .excluded then w.place r.listener p c false else w) w
    let w := (new.filter fun p => !r.talkers.contains p).foldl (fun w p => w.place r.listener p c false)
      (w.setListen id (some { r with talkers := new }))
    (w.done c).reassess c

/-- The talk records that satisfy a test, ascending. -/
def Talk.talksWhere (t : Talk) (f : TalkRec → Bool) : List TalkId :=
  (indices 128).filter fun i => match t.talks.get i with | some r => f r | none => false
/-- The listen records that satisfy a test, ascending. -/
def Talk.listensWhere (t : Talk) (f : ListenRec → Bool) : List ListenId :=
  (indices 64).filter fun i => match t.listens.get i with | some r => f r | none => false

/-- Every talk and listen of a target is resolved again, talks first (R137). -/
def Work.reresolveTarget (w : Work) (target : Target) : Work :=
  let w := (w.talk.talksWhere fun r => r.target == target).foldl Work.reresolveTalk w
  (w.talk.listensWhere fun r => r.target == target).foldl Work.reresolveListen w

/-- The FOLLOW talks of a production resolved again in two passes over all of them (R157). Each one's resolution is reassessed once, at the
end of its own second pass, and not when another's pass moves it before (log entry 12, DESIGN CHOICE: R143, R144 and R157 do not say
when). -/
def Work.reresolveFollow (w : Work) (p : Prod2) : Work :=
  let ids := w.talk.talksWhere fun r => r.target == .follow p
  ids.foldl Work.joinTalk (ids.foldl Work.leaveTalk (ids.foldl (fun w i => w.begin (.talk i)) w))

/-! ## What an event leaves behind (R158 to R160) -/

/-- Whether a port has the CALL modifier (R158). -/
def Talk.call (t : Talk) (p : PortId) : Bool :=
  (t.listeners.get p).talkers.any fun e => e.causes.any fun c => match c with | .talk _ => true | _ => false

/-- Whether a port is talking (R158). -/
def Talk.talking (t : Talk) (p : PortId) : Bool :=
  t.listeners.cells.any fun l =>
    l.talkers.any fun e => e.talker == p && e.causes.any fun c => match c with | .talk _ => true | _ => false

/-- A list in runs of `n`; `fuel` bounds the runs. -/
def inRuns (n : Nat) : Nat → List α → List (List α)
  | 0, _ => []
  | f + 1, xs => if xs.isEmpty then [] else xs.take n :: inRuns n f (xs.drop n)

/-- One event's items raised, 128 to a notice (R160). -/
def State.raiseItems (s : State) (link : Bool) (items : List TalkItem) : State :=
  forEach (inRuns Config.talkItemsRoom items.length items) (fun s run => s.raise (.talk link run)) s

/-- The talk engine begins an event. -/
def State.talkWork (s : State) : Work := ⟨s.talk, s.map, [], [], []⟩

/-- The event's end: the fabric line controller is told the changed images, the GPIO unit the talking ports, and the host the items
(R158 to R160); log entry 12: LINK items first. -/
def State.finishTalk (s : State) (w : Work) : State :=
  let s := forEach w.told State.handAset { s with talk := w.talk }
  let s := s.onGpio (·.tellTalking (.build 96 w.talk.talking))
  (s.raiseItems true (w.items.filter fun i => i.origin == .link)).raiseItems false (w.items.filter fun i => i.origin != .link)

/-- One event of the talk engine. -/
def State.talkEvent (s : State) (f : Work → Work) : State := s.finishTalk (f s.talkWork)

/-! ## Talk keys (R146 to R151) -/

/-- A talk key's state. -/
def Talk.key (t : Talk) (p : PanelId) (k : KeyId) : TalkKey := (t.keys.getP p).get k
/-- A talk key's state replaced. -/
def Work.setKey (w : Work) (p : PanelId) (k : KeyId) (x : TalkKey) : Work :=
  w.onTalk fun t => { t with keys := t.keys.setP p ((t.keys.getP p).set k x) }

/-- The talk of an origin. -/
def Talk.talkOf (t : Talk) (o : TalkOrigin) : Option TalkId := (indices 128).find? fun i => (t.talks.get i).any fun r => r.origin == o
/-- The listen of an origin. -/
def Talk.listenOf (t : Talk) (o : TalkOrigin) : Option ListenId := (indices 64).find? fun i => (t.listens.get i).any fun r => r.origin == o

/-- The talk of an origin ends, where there is one. -/
def Work.endTalkOf (w : Work) (o : TalkOrigin) (reason : EndReason) : Work :=
  match w.talk.talkOf o with
  | some id => w.endTalk id reason
  | none => w
/-- The listen of an origin ends, where there is one. -/
def Work.endListenOf (w : Work) (o : TalkOrigin) (reason : EndReason) : Work :=
  match w.talk.listenOf o with
  | some id => w.endListen id reason
  | none => w

/-- Why a talk cannot be created, in the order of R146: NO_PORT, TARGET, FULL; or its number and talker. -/
def Talk.admitTalk (t : Talk) (port : Option PortId) (target : Target) : Except RefuseReason (TalkId × PortId) :=
  match port with
  | none => .error .noPort
  | some n =>
    if t.invalidTarget n target then .error .target
    else
      match t.freeTalk with
      | some id => .ok (id, n)
      | none => .error .full

/-- Why a listen cannot be created, in the order of R150; or its number and listener. -/
def Talk.admitListen (t : Talk) (port : Option PortId) (target : Target) : Except RefuseReason (ListenId × PortId) :=
  match port with
  | none => .error .noPort
  | some n =>
    if target = .port n then .error .target
    else
      match t.freeListen with
      | some id => .ok (id, n)
      | none => .error .full

/-- The item of a refused press or activation (R160). -/
def refusedItem (listen : Bool) (o : TalkOrigin) (port : Option PortId) (target : Target) (r : RefuseReason) : TalkItem :=
  { listen := listen, number := none, origin := o, port := port, target := target, change := .refused r }

/-- A DOWN of a TALK key in IDLE tries to create its talk (R146); a refusal shows on the key. -/
def State.pressTalkIdle (s : State) (p : PanelId) (k : KeyId) (target : Target) (priority : Bool) : State :=
  let port := (s.keyMap p).port
  let o : TalkOrigin := .panel p k
  match s.talk.admitTalk port target with
  | .error r => (s.talkEvent fun w => (w.setKey p k .refused).emit (refusedItem false o port target r)).setRefused p k true
  | .ok (id, n) =>
    s.talkEvent fun w => (w.createTalk id n target o priority).setKey p k (.held (s.clock + Config.ms s.talk.latchWindow))

/-- A DOWN of a TALK key (R146, R148). -/
def State.pressTalk (s : State) (p : PanelId) (k : KeyId) (target : Target) (priority : Bool) : State :=
  match s.talk.key p k with
  | .idle => s.pressTalkIdle p k target priority
  | .latched => s.talkEvent fun w => (w.setKey p k .unlatching).endTalkOf (.panel p k) .unlatch
  | .held _ => s
  | .momentary => s
  | .unlatching => s
  | .refused => s

/-- An UP of a TALK key (R147, R148). -/
def State.releaseTalk (s : State) (p : PanelId) (k : KeyId) (noLatch : Bool) : State :=
  match s.talk.key p k with
  | .held _ =>
    if noLatch then s.talkEvent fun w => (w.setKey p k .idle).endTalkOf (.panel p k) .release
    else s.talkEvent fun w => w.setKey p k .latched
  | .momentary => s.talkEvent fun w => (w.setKey p k .idle).endTalkOf (.panel p k) .release
  | .unlatching => s.talkEvent fun w => w.setKey p k .idle
  | .refused => s.talkEvent fun w => w.setKey p k .idle
  | .idle => s
  | .latched => s

/-- A DOWN of a LISTEN key toggles its listen (R150). -/
def State.pressListen (s : State) (p : PanelId) (k : KeyId) (target : Target) : State :=
  let o : TalkOrigin := .panel p k
  let port := (s.keyMap p).port
  match s.talk.listenOf o with
  | some id => s.talkEvent fun w => w.endListen id .release
  | none =>
    match s.talk.admitListen port target with
    | .error r => s.talkEvent fun w => w.emit (refusedItem true o port target r)
    | .ok (id, n) => s.talkEvent fun w => w.createListen id n target o

/-- Whether an origin is a key of a panel. -/
def TalkOrigin.ofPanel (o : TalkOrigin) (p : PanelId) : Bool :=
  match o with
  | .panel q _ => q == p
  | _ => false

/-- Whether a talk key's state ends at the entry's silence: HELD, MOMENTARY, UNLATCHING and REFUSED (R151). -/
def TalkKey.silenced : TalkKey → Bool
  | .held _ => true
  | .momentary => true
  | .unlatching => true
  | .refused => true
  | _ => false

/-- Whether a talk key is HELD or MOMENTARY. -/
def TalkKey.isHeld : TalkKey → Bool
  | .held _ => true
  | .momentary => true
  | _ => false

/-- The entry's keys as SILENT leaves them (R151). -/
def Work.silenceKeys (w : Work) (p : PanelId) : Work :=
  w.onTalk fun t => { t with keys := t.keys.setP p ((t.keys.getP p).map fun k => if k.silenced then .idle else k) }

/-- Every TALK key of an entry becomes IDLE (R151). -/
def Work.idleKeys (w : Work) (p : PanelId) : Work := w.onTalk fun t => { t with keys := t.keys.setP p (.replicate 48 .idle) }

/-- Whether a talk of an entry has its key HELD or MOMENTARY (R151). -/
def Talk.isHeldBy (t : Talk) (p : PanelId) (r : TalkRec) : Bool :=
  match r.origin with
  | .panel q k => q == p && (t.key p k).isHeld
  | _ => false

/-- An entry enters SILENT: its HELD and MOMENTARY talks end, in ascending record number (R151; log entry 21, DESIGN CHOICE). -/
def State.talkSilent (s : State) (p : PanelId) : State :=
  s.talkEvent fun w =>
    let ids := w.talk.talksWhere fun r => w.talk.isHeldBy p r
    ids.foldl (fun w i => w.endTalk i .silent) (w.silenceKeys p)

/-- Every talk and listen of an entry ends, talks in ascending record number and then listens in ascending record number, and its TALK
keys become IDLE (R151, which gives no order; log entry 21, DESIGN CHOICE). -/
def Work.endPanel (w : Work) (p : PanelId) (reason : EndReason) : Work :=
  let w := w.idleKeys p
  let w := (w.talk.talksWhere fun r => r.origin.ofPanel p).foldl (fun w i => w.endTalk i reason) w
  (w.talk.listensWhere fun r => r.origin.ofPanel p).foldl (fun w i => w.endListen i reason) w

/-- An entry enters LOST (R151). -/
def State.talkLost (s : State) (p : PanelId) : State := s.talkEvent fun w => w.endPanel p .lost

/-- SET_KEYMAP changes a key: its talk or listen ends and it becomes IDLE (R125, R151). -/
def Work.endKey (w : Work) (p : PanelId) (k : KeyId) : Work :=
  ((w.setKey p k .idle).endTalkOf (.panel p k) .keymap).endListenOf (.panel p k) .keymap

/-- The latch timer of a HELD key expires: MOMENTARY (R147). -/
def State.latchExpires (s : State) (p : PanelId) (k : KeyId) : State := s.talkEvent fun w => w.setKey p k .momentary

/-! ## GPI talks (R152) -/

/-- A GPI with a TALK mapping activates (R152). An invalid target while the talk table is full is refused TARGET (log entry 21, DESIGN
CHOICE: R152 gives the two reasons no precedence). -/
def Work.activateGpi (w : Work) (g : GpiId) (talker : PortId) (target : Target) : Work :=
  match w.talk.admitTalk (some talker) target with
  | .error r => w.emit (refusedItem false (.gpi g) (some talker) target r)
  | .ok (id, n) => w.createTalk id n target (.gpi g) false

/-! ## Tally delivery (R157) -/

/-- A tally delivery of a production reaches the talk engine (R88, R157). -/
def State.deliverTalk (s : State) (p : Prod2) (colours : Tbl 128 Colour) : State :=
  s.talkEvent fun w => (w.onTalk fun t => { t with colours := t.colours.set p colours }).reresolveFollow p

/-! ## IFB circuits (R155) -/

/-- The PROGRAM cause of a circuit taken out of a talent's record without promoting. -/
def Work.takeProgram (w : Work) (i : CircuitId) (talent program : PortId) : Work :=
  w.settle talent ⟨((w.talk.listeners.get talent).take program (.program i)).1, w.talk.creation, []⟩

/-- The front of a listener's wait list is promoted where a place is free (R142). -/
def Work.promote (w : Work) (p : PortId) : Work := w.settle p ((w.talk.listeners.get p).promote w.talk.creation)

/-- A PROGRAM cause is added: to its port's entry, or as a new entry (R155). -/
def Work.addProgram (w : Work) (i : CircuitId) (talent program : PortId) : Work :=
  let l := w.talk.listeners.get talent
  if l.talkers.any fun e => e.talker == program then
    w.settle talent
      ⟨{ l with talkers := l.talkers.map fun e => if e.talker = program then { e with causes := addCause (.program i) e.causes } else e },
        w.talk.creation, []⟩
  else
    let gathered := (l.waits.filter fun x => x.talker == program).map fun x => x.cause
    w.settle talent
      ⟨{ talkers := l.talkers ++ [{ talker := program, causes := gathered.foldl (fun cs c => addCause c cs) [.program i], dim := false
                                    creation := w.talk.creation }]
         waits := l.waits.filter fun x => x.talker != program }, w.talk.creation + 1, gathered⟩

/-- A circuit's dim flags set again at a listener port (R156). -/
def Work.redim (w : Work) (p : PortId) : Work := w.settle p ⟨w.talk.listeners.get p, w.talk.creation, []⟩

/-- SET_IFB applied, in the order of R155; the talks of its step 4 are taken in ascending record number (log entry 21, DESIGN CHOICE:
R155 gives them no order). -/
def Work.setCircuit (w : Work) (i : CircuitId) (x : Circuit) : Work :=
  let old := w.talk.circuits.get i
  let same := decide (old.talent = x.talent)
  let w :=
    match old.talent with
    | some t => if same then w.takeProgram i t old.program else w.remove t old.program (.program i)
    | none => w
  let w := w.onTalk fun t => { t with circuits := t.circuits.set i x }
  let w :=
    match x.talent with
    | some t => let w := w.addProgram i t x.program; if same then w.promote t else w
    | none => w
  let w := (w.talk.talksWhere fun r => r.target == .ifb i).foldl Work.reresolveTalk w
  let w := match old.talent with | some t => w.redim t | none => w
  match x.talent with | some t => w.redim t | none => w

/-! ## RESTART (R163) -/

/-- The talk engine's RESTART effects: every talk and every listen ends, and every TALK key becomes IDLE (R163). -/
def State.restartTalk (s : State) : State :=
  s.talkEvent fun w =>
    let w := w.onTalk fun t => { t with keys := .replicate 4 (.replicate 16 (.replicate 48 .idle)) }
    let w := (w.talk.talksWhere fun _ => true).foldl (fun w i => w.endTalk i .restart) w
    (w.talk.listensWhere fun _ => true).foldl (fun w i => w.endListen i .restart) w

end Sys2Proof.Machine
end

