-- ==== Sys2Proof/Machine/Publish.lean ====
section
/-! DEFINITION. Publication of a completed tally computation, with its notices and deliveries (R71, R78, R83 to R88). -/

namespace Sys2Proof.Machine

/-- The MIXER notice of a changed cycle condition (R78). -/
def State.raiseCycle (s : State) (p : Prod2) (old new : Option Cut) : State :=
  if new = old then s
  else
    match new with
    | some c => s.raise (.mixer p (.cycle c))
    | none => s.raise (.mixer p .cycleClear)

/-- The published records, the publication count and the cycle condition replaced (R78, R83). -/
def State.putPublished (s : State) (p : Prod2) (x : Snapshot) : State :=
  let e := s.engines.get p
  let r := x.compute p
  s.setEngine p { e with published := r.1, cycle := r.2, count := (e.count + 1) % 65536 }

/-- The deliveries to the GPIO unit and the talk engine (R87, R88). -/
def State.deliver (s : State) (p : Prod2) : State :=
  let colours : Tbl 128 Colour := (s.engines.get p).published.map fun r => r.colour
  (s.onGpio (·.deliver p colours (.build 128 s.combinedColour))).deliverTalk p colours

/-- The engine starts again where AGAIN is set, and becomes IDLE otherwise (R71). -/
def State.nextRun (s : State) (p : Prod2) : State :=
  let e := s.engines.get p
  if e.again then s.startRun p else s.setEngine p { e with running := none }

/-- A production's computation completes and publishes (R71, R83, R84). The TALLY notice is raised before the TALK notices to which the
delivery to the talk engine leads (log entry 12, DESIGN CHOICE: R78 orders only MIXER before TALLY). -/
def State.publish (s : State) (p : Prod2) (x : Snapshot) : State :=
  let old := s.engines.get p
  let s := s.putPublished p x
  let new := s.engines.get p
  let changes := tallyChanges old.published new.published
  let s := (s.raiseCycle p old.cycle new.cycle).raiseIf (!changes.isEmpty) (.tally p new.count changes)
  (s.deliver p).nextRun p

end Sys2Proof.Machine
end

