-- ==== Sys2Proof/Machine/Inputs.lean ====
section
/-! DEFINITION. The inputs of the GPIO unit (sections 9.1 and 9.2): debouncing, and the hand-over of a debounced change. -/

namespace Sys2Proof.Machine

/-- An input record. -/
def State.gpi (s : State) (i : GpiId) : Gpi := s.gpio.inputs.get i
/-- An input record replaced. -/
def State.setGpiRec (s : State) (i : GpiId) (g : Gpi) : State := s.onGpio fun x => { x with inputs := x.inputs.set i g }

/-- Arm of a destination is asked for a value: written where it differs, with its triggers (R13). -/
def State.setArm (s : State) (d : DestId) (on : Bool) : State :=
  let a := s.map.attrs.get d
  if a.arm = on then s
  else (s.onMap fun m => { m with attrs := m.attrs.set d { a with arm := on } }).triggers a.production.includes

/-- A change of an input's debounced level is handed to its mapping's owner (R166). -/
def State.handChange (s : State) (i : GpiId) : State :=
  let g := s.gpi i
  match g.mapping with
  | .unmapped => s
  | .forceRed _ q => s.triggers q.includes
  | .talk n t => s.talkEvent fun w => if g.level then w.activateGpi i n t else w.endTalkOf (.gpi i) .gpi
  | .arm d => s.setArm d g.level

/-- The raw level is compared with the debounced level, and a difference is taken and handed on (R165). -/
def State.debounce (s : State) (i : GpiId) : State :=
  let g := s.gpi i
  if g.raw = g.level then s else (s.setGpiRec i { g with level := g.raw }).handChange i

/-- A change of an input's raw level (R165). -/
def State.rawChange (s : State) (i : GpiId) : State :=
  let g := s.gpi i
  if g.time = 0 then (s.setGpiRec i { g with raw := !g.raw }).debounce i
  else s.setGpiRec i { g with raw := !g.raw, timer := some (s.clock + Config.ms g.time) }

/-- An input's debounce timer expires (R165). -/
def State.debounceExpires (s : State) (i : GpiId) : State := (s.setGpiRec i { s.gpi i with timer := none }).debounce i

/-- The inputs mapped FORCE_RED to a source of a block, ascending (R4, R169). -/
def State.forcersOf (s : State) (b : BlockId) : List GpiId :=
  (indices 16).filter fun i =>
    match (s.gpi i).mapping with
    | .forceRed x _ => blockOf x == b
    | _ => false

/-- The inputs handed again at the talk engine's report of a RESTART: mapped TALK and active, ascending (R169). -/
def State.rehandInputs (s : State) : State :=
  forEach (indices 16)
    (fun s i =>
      let g := s.gpi i
      match g.mapping with
      | .talk n t => if g.level then s.talkEvent fun w => w.activateGpi i n t else s
      | _ => s) s

end Sys2Proof.Machine
end

