-- ==== Sys2Proof/Machine/Mixer.lean ====
section
/-! DEFINITION. The mixer ports (chapter 4): adjustment and application of records, LIVE and STALE, and what a received byte does. -/

namespace Sys2Proof.Machine

/-- A value above 1024 is taken as 1024 (R59). -/
def clamp1024 (n : Nat) : Nat := min n 1024

/-- A received reference in a record for stage `k`, and whether it was taken otherwise than received (R60). -/
def adjustRef (k : StageId) (r : RawRef) : Ref × Bool :=
  match r.kind with
  | 0 => match indexOf 40 r.index with | some n => (.input n, false) | none => (.black, true)
  | 1 =>
    match indexOf 4 r.index with
    | some j => if j = 0 ∨ j = k then (.black, true) else (.stage j, false)
    | none => (.black, true)
  | 2 => (.black, false)
  | 3 => (.matte, false)
  | _ => (.black, true)

/-- A STAGE record as the table holds it, and whether anything was adjusted (R59, R60). -/
def adjustStage (k : StageId) (r : RawStage) : StageRec × Bool :=
  let a := adjustRef k r.aRef
  let b := adjustRef k r.bRef
  let x := adjustRef k r.key1
  let y := adjustRef k r.key2
  ({ aRef := a.1, bRef := b.1, position := clamp1024 r.position, key1 := x.1, gain1 := clamp1024 r.gain1, key2 := y.1
     gain2 := clamp1024 r.gain2 },
    a.2 || b.2 || x.2 || y.2 || decide (1024 < r.position) || decide (1024 < r.gain1) || decide (1024 < r.gain2))

/-- A valid record reaches the port state: the stale timer restarts, and a STALE port returns to LIVE with its notice (R63, R64). -/
def State.portAlive (s : State) (p : Prod2) (stage : Option StageId) : State :=
  let m := s.mixers.get p
  let t := s.setMixer p { m with state := .live (s.clock + Config.staleTime), lastValid := some s.clock }
  match m.state with
  | .live _ => t
  | .stale since => t.raise (.mixer p (.live stage (since.map fun x => stopAtTop (inMs (s.clock - x)))))

/-- A frame or record discarded (R56, R57). -/
def State.mixerDiscard (s : State) (p : Prod2) : State :=
  let m := s.mixers.get p
  s.setMixer p { m with discards := bump m.discards }

/-- A STAGE record of a stage that exists is adjusted, replaces the stage's record whole, keeps the port alive and triggers the engine
(R59 to R61, R64). -/
def State.applyStage (s : State) (p : Prod2) (k : StageId) (r : RawStage) : State :=
  let x := adjustStage k r
  let m := s.mixers.get p
  ((s.setMixer p { m with table := m.table.set k x.1, adjusts := if x.2 then bump m.adjusts else m.adjusts }).portAlive p (some k)).trigger p

/-- A KEEP record: it keeps the port alive, and triggers the engine on a return to LIVE alone (R62, R64). -/
def State.applyKeep (s : State) (p : Prod2) : State :=
  (s.portAlive p none).triggerIf (!(s.mixers.get p).state.isLive) p

/-- A complete frame with a good check, by its kind and length (R57). -/
def State.mixerFrame (s : State) (p : Prod2) (kind : Byte) (body : List Byte) : State :=
  if kind = stageKind then
    match decodeStage body with
    | some r =>
      match indexOf 4 r.stage with
      | some k => s.applyStage p k r
      | none => s.mixerDiscard p
    | none => s.mixerDiscard p
  else if kind = keepKind ∧ body = [] then s.applyKeep p
  else s.mixerDiscard p

/-- A port's receiver replaced. -/
def State.setMixerRx (s : State) (p : Prod2) (rx : Rx) : State := s.setMixer p { s.mixers.get p with rx := rx }

/-- A byte ends on a mixer port's line (R55 to R57). -/
def State.mixerByte (s : State) (p : Prod2) (b : RxByte) : State :=
  let r := (s.mixers.get p).rx.take s.clock b
  let t := s.setMixerRx p r.1
  match r.2 with
  | .quiet => t
  | .skipped => t
  | .discarded _ => t.mixerDiscard p
  | .complete kind _ body => t.mixerFrame p kind body

/-- A whole frame comes to a receiver that hunts, or that holds a first part of it (log entry 3). -/
def State.mixerWhole (s : State) (p : Prod2) (kind tag : Byte) (body : List Byte) : State :=
  if (s.mixers.get p).rx.awaits kind tag body then (s.setMixerRx p .hunting).mixerFrame p kind body else s

/-- The stale timer expires in LIVE (R63, R67). -/
def State.mixerStale (s : State) (p : Prod2) : State :=
  let m := s.mixers.get p
  ((s.setMixer p { m with state := .stale (some s.clock) }).raise (.mixer p (.stale m.discards m.adjusts))).trigger p

end Sys2Proof.Machine
end

