-- ==== Sys2Proof/Machine/SourceMapRequests.lean ====
section
/-! DEFINITION. The requests of the source map (chapter 1). -/

namespace Sys2Proof.Machine

/-- What an owner answers: the result, and its data (R192). -/
structure Answer where
  result : Result
  data : List Byte
deriving DecidableEq, Repr

/-- A request refused with nothing but its result. -/
def refused (r : Result) : Answer := ⟨r, []⟩

/-! ## SET_CLASS (R3 to R5) -/

/-- A block and its class as now held. -/
def State.classData (s : State) (b : BlockId) : List Byte := u8 b.val ++ u8 (classCode (s.map.classes.get b))

/-- The sources of a block that have a camera port, ascending. -/
def State.camerasOf (s : State) (b : BlockId) : List SourceId := (sourcesOf b).filter fun x => (s.map.cameraPort.get x).isSome

/-- The camera ports of sources cleared. -/
def SourceMap.clearCameras (m : SourceMap) (xs : List SourceId) : SourceMap :=
  { m with cameraPort := xs.foldl (fun t x => t.set x none) m.cameraPort }

/-- The mappings of inputs set to NONE, their levels, times and timers kept (R169). -/
def Gpio.clearMappings (g : Gpio) (is : List GpiId) : Gpio :=
  { g with inputs := is.foldl (fun t i => t.modify i fun x => { x with mapping := .unmapped }) g.inputs }

/-- A class change applied (R4, R5). -/
def State.changeClass (s : State) (tag : Nat) (b : BlockId) (c : FeedClass) : State :=
  let cameras := if s.map.classes.get b = .camera then s.camerasOf b else []
  let forcers := if c = .utility then s.forcersOf b else []
  let s := s.onMap fun m => { m with classes := m.classes.set b c }.clearCameras cameras
  let s := s.onGpio (·.clearMappings forcers)
  let s := s.raiseIf (!cameras.isEmpty || !forcers.isEmpty) (.config tag b cameras forcers)
  s.triggers fun _ => true

/-- SET_CLASS (R1, R3). -/
def serveSetClass (tag block code : Nat) (s : State) : State × Answer :=
  match indexOf 16 block with
  | none => (s, refused .range)
  | some b =>
    if 7 < code then (s, ⟨.range, s.classData b⟩)
    else
      match classOf code with
      | none => (s, ⟨.classed, s.classData b⟩)
      | some c =>
        let t := if s.map.classes.get b = c then s else s.changeClass tag b c
        (t, ⟨.done, t.classData b⟩)

/-! ## SET_CAMERA (R8) -/

/-- A source and its camera port as now held. -/
def State.cameraData (s : State) (x : SourceId) : List Byte := u8 x.val ++ optIndex (s.map.cameraPort.get x)

/-- SET_CAMERA (R1, R8). -/
def serveSetCamera (source port : Nat) (s : State) : State × Answer :=
  match indexOf 128 source with
  | none => (s, refused .range)
  | some x =>
    match optIndexOf 96 port with
    | none => (s, ⟨.range, s.cameraData x⟩)
    | some n =>
      if s.map.classAt x ≠ .camera then (s, ⟨.classed, s.cameraData x⟩)
      else
        let t :=
          if s.map.cameraPort.get x = n then s
          else (s.onMap fun m => { m with cameraPort := m.cameraPort.set x n }).triggers fun _ => true
        (t, ⟨.done, t.cameraData x⟩)

/-! ## SET_INPUT (R10) -/

/-- A production, an input and its entry as now held. -/
def State.inputData (s : State) (p : Prod2) (n : InputId) : List Byte :=
  u8 (prod2Code p) ++ u8 n.val ++ inputEntryBytes ((s.map.inputs.get p).get n)

/-- SET_INPUT (R1, R10). -/
def serveSetInput (production input kind index : Nat) (s : State) : State × Answer :=
  match prod2Of production, indexOf 40 input with
  | some p, some n =>
    match inputEntryOf kind index with
    | none => (s, ⟨.range, s.inputData p n⟩)
    | some e =>
      let t :=
        if (s.map.inputs.get p).get n = e then s
        else (s.onMap fun m => { m with inputs := m.inputs.set p ((m.inputs.get p).set n e) }).trigger p
      (t, ⟨.done, t.inputData p n⟩)
  | _, _ => (s, refused .range)

/-! ## SET_DEST (R12) -/

/-- A destination and its three attributes as now held. -/
def State.attrData (s : State) (d : DestId) : List Byte :=
  let a := s.map.attrs.get d
  u8 d.val ++ u8 (prod3Code a.production) ++ flags [a.record, a.arm]

/-- The attributes with the present fields written (R12). -/
def DestAttr.write (a : DestAttr) (p : Option Prod3) (r m : Option Bool) : DestAttr :=
  { production := p.getD a.production, record := r.getD a.record, arm := m.getD a.arm }

/-- SET_DEST (R1, R12). -/
def serveSetDest (dest : Nat) (production record arm : Option Nat) (s : State) : State × Answer :=
  match indexOf 64 dest with
  | none => (s, refused .range)
  | some d =>
    match optOf prod3Of production, optOf boolOf record, optOf boolOf arm with
    | some p, some r, some m =>
      let old := s.map.attrs.get d
      let new := old.write p r m
      let t :=
        if new = old then s
        else
          (s.onMap fun x => { x with attrs := x.attrs.set d new }).triggers fun q => old.production.includes q || new.production.includes q
      (t, ⟨.done, t.attrData d⟩)
    | _, _, _ => (s, ⟨.range, s.attrData d⟩)

/-! ## SET_THRESHOLD (R14) -/

/-- A threshold clamped to 1-1024 (R14). -/
def clampThreshold (n : Nat) : Nat := max 1 (min n 1024)

/-- The thresholds with the present fields written, clamped (R14). -/
def Thresholds.write (t : Thresholds) (air preview : Option Nat) : Thresholds :=
  { air := (air.map clampThreshold).getD t.air, preview := (preview.map clampThreshold).getD t.preview }

/-- The air and preview thresholds of the productions named, as now held; for BOTH, A's two and then B's (R14 gives no order; log entry
20, DESIGN CHOICE). -/
def State.thresholdData (s : State) (p : Prod3) : List Byte :=
  (allProds.filter p.includes).flatMap fun q => u16 (s.map.thresholds.get q).air ++ u16 (s.map.thresholds.get q).preview

/-- The thresholds of one production written, with its trigger where one changed (R14). -/
def State.writeThresholds (s : State) (air preview : Option Nat) (q : Prod2) : State :=
  let old := s.map.thresholds.get q
  let new := old.write air preview
  if new = old then s else s.onMap fun m => { m with thresholds := m.thresholds.set q new }

/-- SET_THRESHOLD (R1, R14). -/
def serveSetThreshold (production : Nat) (air preview : Option Nat) (s : State) : State × Answer :=
  match prod3Of production with
  | none => (s, refused .range)
  | some p =>
    let t := forEach (allProds.filter p.includes) (fun s q => s.writeThresholds air preview q) s
    let t := t.triggers fun q => decide (t.map.thresholds.get q ≠ s.map.thresholds.get q)
    (t, ⟨.done, t.thresholdData p⟩)

end Sys2Proof.Machine
end

