-- ==== Sys2Proof/Machine/FeedRequests.lean ====
section
/-! DEFINITION. The requests of the crosspoint controller and the salvo store (chapters 2 and 10). -/

namespace Sys2Proof.Machine

/-! ## TAKE, LOCK and UNLOCK (R19, R33) -/

/-- The owner of a destination's lock, as a refusal carries it. -/
def State.ownerData (s : State) (d : DestId) : List Byte :=
  match (s.dest d).lock with
  | some k => identityBytes k.owner
  | none => []

/-- TAKE (R19). -/
def serveTake (dest source : Nat) (forced : Bool) (s : State) : State × Answer :=
  match indexOf 64 dest, feedOf source with
  | some d, some f =>
    match s.offerTake d f .link forced with
    | (t, none) => (t, ⟨.accepted, u8 d.val ++ optIndex f⟩)
    | (t, some .locked) => (t, ⟨.locked, u8 d.val ++ s.ownerData d⟩)
    | (t, some r) => (t, ⟨r, u8 d.val⟩)
  | _, _ => (s, ⟨.range, u8 dest⟩)

/-- LOCK (R33). -/
def serveLock (dest : Nat) (s : State) : State × Answer :=
  match indexOf 64 dest with
  | none => (s, refused .range)
  | some d =>
    match (s.dest d).lock with
    | none => (s.acquireLock d .link, ⟨.done, []⟩)
    | some k => if k.owner = .link then (s, ⟨.done, []⟩) else (s, ⟨.locked, identityBytes k.owner⟩)

/-- UNLOCK (R33). A refusal with LOCKED carries the owner, as LOCK's does (log entry 20, DESIGN CHOICE: R33 names the body for LOCK alone). -/
def serveUnlock (dest : Nat) (forced : Bool) (s : State) : State × Answer :=
  match indexOf 64 dest with
  | none => (s, refused .range)
  | some d =>
    match (s.dest d).lock with
    | none => (s, ⟨.done, []⟩)
    | some k =>
      if k.owner = .link then (s.removeLock d .link .released, ⟨.done, []⟩)
      else if forced then (s.removeLock d k.owner .forced, ⟨.done, []⟩)
      else (s, ⟨.locked, identityBytes k.owner⟩)

/-! ## The salvo store's requests (R178 to R180, R182) -/

/-- Whether the store refuses a request that programs: STARTING or OPERATING (R181). -/
def Store.busy (x : Store) : Bool := x.state != .idle

/-- SALVO_WRITE (R178). What is out of range is refused RANGE before the store's state is looked at (log entry 21, DESIGN CHOICE: no rule
orders RANGE and R181's BUSY), and the list's own count byte is the entry count of the reply (log entry 20, DESIGN CHOICE). -/
def serveSalvoWrite (tag page : Nat) (entries : List RawEntry) (s : State) : State × Answer :=
  match indexOf 48 page, allOf salvoEntryOf entries with
  | some n, some es =>
    if 32 < es.length then (s, refused .range)
    else if s.store.busy then (s, refused .busy)
    else
      let list := formEntries es
      (s.onStore (·.begin (.write n list) tag), ⟨.accepted, u8 n.val ++ listOf salvoEntryBytes list⟩)
  | _, _ => (s, refused .range)

/-- SALVO_ERASE (R179); RANGE before BUSY (log entry 21, DESIGN CHOICE). -/
def serveSalvoErase (tag page : Nat) (s : State) : State × Answer :=
  match indexOf 48 page with
  | none => (s, refused .range)
  | some n =>
    if s.store.busy then (s, refused .busy)
    else if (s.store.pages.get n).state = .empty then (s, ⟨.done, []⟩)
    else (s.onStore (·.begin (.erase n) tag), ⟨.accepted, []⟩)

/-- SALVO_BOOT (R180); RANGE before BUSY (log entry 21, DESIGN CHOICE). -/
def serveSalvoBoot (tag page : Nat) (s : State) : State × Answer :=
  match optIndexOf 48 page with
  | none => (s, refused .range)
  | some v =>
    if s.store.busy then (s, refused .busy)
    else if !s.store.header.bad && s.store.header.boot == v then (s, ⟨.done, []⟩)
    else (s.onStore (·.begin (.boot v) tag), ⟨.accepted, []⟩)

/-- The refused list of a recall's reply: destination, source and result of each (R182). -/
def refusedBytes (rs : List RefusedEntry) : List Byte :=
  listOf (fun r => salvoEntryBytes r.entry ++ u8 (resultCode r.result)) rs

/-- SALVO_RECALL (R182); RANGE before BUSY (log entry 21, DESIGN CHOICE). -/
def serveSalvoRecall (page : Nat) (s : State) : State × Answer :=
  match indexOf 48 page with
  | none => (s, refused .range)
  | some n =>
    match s.store.recallRefusal n with
    | some r => (s, refused r)
    | none =>
      let es := (s.store.pages.get n).entries
      let (t, rs) := s.offerGroup n .link es
      (t, ⟨.accepted, u8 n.val ++ u8 es.length ++ u8 (es.length - rs.length) ++ refusedBytes rs⟩)

end Sys2Proof.Machine
end

