-- ==== Sys2Proof/Machine/IntercomRequests.lean ====
section
/-! DEFINITION. The requests of the talk engine and of the GPIO unit (chapters 8 and 9). -/

namespace Sys2Proof.Machine

/-! ## SET_GROUP (R137) -/

/-- A group and its members as now held. -/
def State.groupData (s : State) (g : GroupId) : List Byte := u8 g.val ++ listOf (fun (p : PortId) => u8 p.val) (s.talk.groups.get g)

/-- SET_GROUP (R137). -/
def serveSetGroup (group : Nat) (members : List Nat) (s : State) : State × Answer :=
  match indexOf 16 group, allOf (indexOf 96) members with
  | some g, some ms =>
    if 24 < ms.length ∨ ¬ ms.Nodup then (s, refused .range)
    else
      let t :=
        if s.talk.groups.get g = ms then s
        else s.talkEvent fun w => (w.onTalk fun t => { t with groups := t.groups.set g ms }).reresolveTarget (.group g)
      (t, ⟨.done, t.groupData g⟩)
  | _, _ => (s, refused .range)

/-! ## SET_IFB (R155) -/

/-- A circuit as now held, its number first, as the request names it (log entry 20, DESIGN CHOICE: R155 does not say whether the number is
sent). -/
def State.circuitData (s : State) (i : CircuitId) : List Byte :=
  let x := s.talk.circuits.get i
  u8 i.val ++ optIndex x.talent ++ u8 x.program.val ++ u8 x.dim.val

/-- A dim depth above 30 is taken as 30 (R155). -/
def clampDim (n : Nat) : Fin 31 := ⟨min n 30, by omega⟩

/-- Whether another configured circuit holds a talent and program port alike (R155). -/
def Talk.circuitTaken (t : Talk) (i : CircuitId) (talent program : PortId) : Bool :=
  (indices 16).any fun j => j != i && (t.circuits.get j).talent == some talent && (t.circuits.get j).program == program

/-- Whether a PROGRAM cause could not stand in a talent's talker list, a circuit's old one taken out (R155). -/
def Talk.noRoomFor (t : Talk) (i : CircuitId) (talent program : PortId) : Bool :=
  let old := t.circuits.get i
  let l := t.listeners.get talent
  let l := if old.talent = some talent then (l.take old.program (.program i)).1 else l
  decide (Config.listRoom ≤ l.talkers.length) && !l.talkers.any fun e => e.talker == program

/-- Why a circuit cannot be configured: STATE before FULL (log entry 21, DESIGN CHOICE: R155 gives the two no precedence). -/
def Talk.ifbRefusal (t : Talk) (i : CircuitId) (x : Circuit) : Option Result :=
  match x.talent with
  | none => none
  | some n => if t.circuitTaken i n x.program then some .state else if t.noRoomFor i n x.program then some .full else none

/-- SET_IFB (R155). -/
def serveSetIfb (circuit talent program dim : Nat) (s : State) : State × Answer :=
  match indexOf 16 circuit, optIndexOf 96 talent, indexOf 96 program with
  | some i, some n, some m =>
    if n = some m then (s, refused .range)
    else
      let x : Circuit := ⟨n, m, clampDim dim⟩
      match s.talk.ifbRefusal i x with
      | some r => (s, refused r)
      | none =>
        let t := if s.talk.circuits.get i = x then s else s.talkEvent fun w => w.setCircuit i x
        (t, ⟨.done, t.circuitData i⟩)
  | _, _, _ => (s, refused .range)

/-! ## SET_LATCH (R149) -/

/-- A latch window clamped to 100-1000 and rounded down to a multiple of 50 (R149). -/
def clampLatch (n : Nat) : Nat := max 100 (min n 1000) / 50 * 50

/-- SET_LATCH (R149). -/
def serveSetLatch (window : Nat) (s : State) : State × Answer :=
  let t := s.onTalk fun t => { t with latchWindow := clampLatch window }
  (t, ⟨.done, u16 t.talk.latchWindow⟩)

/-! ## TALK (R153) -/

/-- The counts of IN, WAITING and EXCLUDED placements (R153, R161). -/
def placementCounts (ps : List Placement) : List Byte :=
  u8 (ps.filter (· == .placed)).length ++ u8 (ps.filter (· == .waiting)).length ++ u8 (ps.filter (· == .excluded)).length

/-- A talk's number, resolution and placement counts (R153). -/
def State.talkData (s : State) (id : TalkId) : List Byte :=
  match s.talk.talks.get id with
  | some r => u8 id.val ++ u8 (resolutionCode r.resolution) ++ placementCounts (s.talk.talkPlacements id r)
  | none => u8 id.val

/-- A listen's number, resolution and placement counts (R153). -/
def State.listenData (s : State) (id : ListenId) : List Byte :=
  match s.talk.listens.get id with
  | some r => u8 id.val ++ u8 (resolutionCode r.resolution) ++ placementCounts (s.talk.listenPlacements id r)
  | none => u8 id.val

/-- The LINK talk of a talker and target. -/
def Talk.linkTalk (t : Talk) (talker : PortId) (target : Target) : Option TalkId :=
  (indices 128).find? fun i => (t.talks.get i).any fun r => r.origin == .link && r.talker == talker && r.target == target

/-- The LINK listen of a listener and target. -/
def Talk.linkListen (t : Talk) (listener : PortId) (target : Target) : Option ListenId :=
  (indices 64).find? fun i => (t.listens.get i).any fun r => r.origin == .link && r.listener == listener && r.target == target

/-- Whether a circuit's talent is a port. -/
def Talk.talentIs (t : Talk) (target : Target) (port : PortId) : Bool :=
  match target with
  | .ifb i => (t.circuits.get i).talent == some port
  | _ => false

/-- Whether a target is an IFB circuit without a talent. -/
def Talk.noTalent (t : Talk) (target : Target) : Bool :=
  match target with
  | .ifb i => (t.circuits.get i).talent.isNone
  | _ => false

/-- A LINK talk switched on (R153). Where the circuit has no talent and the table is full as well, the refusal is ABSENT (log entry 21,
DESIGN CHOICE: R153 gives the two no precedence). -/
def State.linkTalkOn (s : State) (port : PortId) (target : Target) : State × Answer :=
  match s.talk.linkTalk port target with
  | some id => (s, ⟨.done, s.talkData id⟩)
  | none =>
    if s.talk.noTalent target then (s, refused .absent)
    else
      match s.talk.freeTalk with
      | none => (s, refused .full)
      | some id =>
        let t := s.talkEvent fun w => w.createTalk id port target .link true
        (t, ⟨.done, t.talkData id⟩)

/-- A LINK listen switched on (R153). -/
def State.linkListenOn (s : State) (port : PortId) (target : Target) : State × Answer :=
  match s.talk.linkListen port target with
  | some id => (s, ⟨.done, s.listenData id⟩)
  | none =>
    match s.talk.freeListen with
    | none => (s, refused .full)
    | some id =>
      let t := s.talkEvent fun w => w.createListen id port target .link
      (t, ⟨.done, t.listenData id⟩)

/-- A LINK talk switched off (R153). -/
def State.linkTalkOff (s : State) (port : PortId) (target : Target) : State × Answer :=
  match s.talk.linkTalk port target with
  | none => (s, refused .absent)
  | some id => (s.talkEvent fun w => w.endTalk id .link, ⟨.done, u8 id.val⟩)

/-- A LINK listen switched off (R153). -/
def State.linkListenOff (s : State) (port : PortId) (target : Target) : State × Answer :=
  match s.talk.linkListen port target with
  | none => (s, refused .absent)
  | some id => (s.talkEvent fun w => w.endListen id .link, ⟨.done, u8 id.val⟩)

/-- TALK (R153): path 0 TALK or 1 LISTEN, action 0 OFF or 1 ON. -/
def serveTalk (path action port : Nat) (target : RawTarget) (s : State) : State × Answer :=
  match indexOf 96 port, (if path = 1 then listenTargetOf target else targetOf target), boolOf path, boolOf action with
  | some n, some t, some listen, some on =>
    if t = .port n ∨ s.talk.talentIs t n then (s, refused .range)
    else
      match listen, on with
      | false, true => s.linkTalkOn n t
      | false, false => s.linkTalkOff n t
      | true, true => s.linkListenOn n t
      | true, false => s.linkListenOff n t
  | _, _, _, _ => (s, refused .range)

/-! ## SET_GPI (R168) -/

/-- An input's mapping, time and levels as held, in R168's order. -/
def State.gpiData (s : State) (i : GpiId) : List Byte :=
  let g := s.gpi i
  u8 i.val ++ gpiMapBytes g.mapping ++ u16 g.time ++ levelBytes g.raw ++ levelBytes g.level

/-- The class check of a mapping: FORCE_RED to a UTILITY source is refused (R168). -/
def SourceMap.forbidsMapping (m : SourceMap) : GpiMap → Bool
  | .forceRed x _ => m.classAt x == .utility
  | _ => false

/-- Whether a mapping forces RED in a production. -/
def GpiMap.reds (m : GpiMap) (q : Prod2) : Bool :=
  match m with
  | .forceRed _ p => p.includes q
  | _ => false

/-- Whether a mapping is TALK. -/
def GpiMap.isTalk : GpiMap → Bool
  | .talk .. => true
  | _ => false

/-- A mapping change applied, in the order of R168. -/
def State.changeMapping (s : State) (i : GpiId) (new : GpiMap) : State :=
  let g := s.gpi i
  let s := s.setGpiRec i { g with mapping := new }
  let s :=
    if g.mapping.isTalk || (g.level && new.isTalk) then
      s.talkEvent fun w =>
        let w := if g.mapping.isTalk then w.endTalkOf (.gpi i) .keymap else w
        match new with
        | .talk n t => if g.level then w.activateGpi i n t else w
        | _ => w
    else s
  s.triggers fun q => g.level && (g.mapping.reds q || new.reds q)

/-- SET_GPI (R168). -/
def serveSetGpi (input : Nat) (mapping : Option RawGpiMap) (debounce : Option Nat) (s : State) : State × Answer :=
  match indexOf 16 input, optOf gpiMapOf mapping with
  | some i, some m =>
    if (m.map s.map.forbidsMapping).getD false then (s, refused .classed)
    else
      let s := match debounce with | some n => s.setGpiRec i { s.gpi i with time := min n 255 } | none => s
      let t :=
        match m with
        | some new => if new = (s.gpi i).mapping then s else s.changeMapping i new
        | none => s
      (t, ⟨.done, t.gpiData i⟩)
  | _, _ => (s, refused .range)

/-! ## SET_GPO (R172) -/

/-- An output's mapping and level as held; the level is an enumerated byte, active 0 (R172, R203; log entry 20, DEDUCED). -/
def State.gpoData (s : State) (o : GpoId) : List Byte :=
  let x := s.gpio.outputs.get o
  u8 o.val ++ gpoMapBytes x.mapping ++ levelBytes x.active

/-- SET_GPO (R172). -/
def serveSetGpo (output : Nat) (mapping : RawGpoMap) (s : State) : State × Answer :=
  match indexOf 16 output, gpoMapOf mapping with
  | some o, some m =>
    let t :=
      if (s.gpio.outputs.get o).mapping = m then s
      else s.onGpio fun g => { g with outputs := g.outputs.set o ⟨m, g.holds m⟩ }
    (t, ⟨.done, t.gpoData o⟩)
  | _, _ => (s, refused .range)

end Sys2Proof.Machine
end

