-- ==== Sys2Proof/Machine/LampComposer.lean ====
section
/-! DEFINITION. The lamp composer (section 7.5): the value of every lamp from the key map entry and the state of the functions. The whole
image is composed again at the end of every step (log entry 7). -/

namespace Sys2Proof.Machine

/-- The ports that a target names for call-in (R128). -/
def Talk.names (t : Talk) (target : Target) (talker : PortId) : Bool :=
  match target with
  | .port n => n == talker
  | .group g => (t.groups.get g).contains talker
  | .ifb i => (t.circuits.get i).talent == some talker
  | .follow _ => false

/-- Whether a panel port's talker list holds an entry with a talk cause for a talker that a target names (R128). -/
def Talk.callIn (t : Talk) (port : Option PortId) (target : Target) : Bool :=
  match port with
  | none => false
  | some n =>
    (t.listeners.get n).talkers.any fun e =>
      t.names target e.talker && e.causes.any fun c => match c with | .talk _ => true | _ => false

/-- The lamp of a talk's resolution (R128). -/
def resolutionLamp : Resolution → Lamp
  | .complete => .lit .green .steady
  | .partly => .lit .green .fast
  | .pending => .lit .green .slow

/-- A TALK key's lamp (R128). -/
def State.talkLamp (s : State) (p : PanelId) (k : KeyId) (target : Target) : Lamp :=
  match (s.talk.talkOf (.panel p k)).bind s.talk.talks.get with
  | some r => resolutionLamp r.resolution
  | none => if s.talk.callIn (s.keyMap p).port target then .lit .amber .slow else .dark

/-- A LISTEN key's lamp (R128). -/
def State.listenLamp (s : State) (p : PanelId) (k : KeyId) : Lamp :=
  match s.talk.listenOf (.panel p k) with
  | none => .dark
  | some id =>
    match s.talk.listens.get id with
    | none => .dark
    | some r => if (s.talk.listenPlacements id r).all (· == .placed) then .lit .green .steady else .lit .green .fast

/-- A DEST key's lamp (R129). -/
def State.destLamp (s : State) (p : PanelId) (d : DestId) : Lamp :=
  let bad := (s.dest d).state == .faulted
  if (s.entry p).selected = some d then (if bad then .lit .green .slow else .lit .green .steady)
  else if bad then .lit .red .slow
  else .dark

/-- A SOURCE key's lamp while no refused press shows (R129). -/
def State.sourceLamp (s : State) (p : PanelId) (f : Feed) : Lamp :=
  match (s.entry p).selected with
  | none => .dark
  | some d =>
    if s.xpt.takes.any fun e => e.dest == d && e.origin == .panel p && e.source == f then .lit .amber .fast
    else if (s.dest d).expected = f then .lit .amber .steady
    else .dark

/-- A LOCK key's lamp (R129). -/
def State.lockLamp (s : State) (p : PanelId) : Lamp :=
  match (s.entry p).selected with
  | none => .dark
  | some d =>
    match (s.dest d).lock with
    | none => .dark
    | some k => if k.owner = .panel p then .lit .red .steady else .lit .red .slow

/-- A SALVO key's lamp while no refused press shows (R130). -/
def State.salvoLamp (s : State) (p : PanelId) (n : SalvoId) : Lamp :=
  if s.xpt.takes.any fun e => e.origin == .salvo n (.panel p) then .lit .amber .fast
  else if (s.store.pages.get n).state = .bad then .lit .red .slow
  else .dark

/-- A key's lamp, by its function (R127 to R130). -/
def State.keyLamp (s : State) (p : PanelId) (k : KeyId) : Lamp :=
  let refused := (s.lamps.refused.getP p).get k
  match ((s.keyMap p).keys.get k).fn with
  | .unused => .dark
  | .talk t => if refused then .lit .red .fast else s.talkLamp p k t
  | .listen _ => s.listenLamp p k
  | .dest d => s.destLamp p d
  | .source f => if refused then .lit .red .fast else s.sourceLamp p f
  | .lock => s.lockLamp p
  | .salvo n => if refused then .lit .red .fast else s.salvoLamp p n

/-- Whether the camera port of a source has the CALL modifier (R131). -/
def State.called (s : State) (x : SourceId) : Bool :=
  match s.map.cameraPort.get x with
  | some n => s.talk.call n
  | none => false

/-- A tally slot's lamp (R131). -/
def State.slotLamp (s : State) (p : PanelId) (j : SlotId) : Lamp :=
  match (s.keyMap p).slots.get j with
  | none => .dark
  | some x =>
    match s.viewColour (s.keyMap p).production x, s.called x with
    | .none, false => .dark
    | .none, true => .lit .amber .slow
    | c, false => .lit c .steady
    | c, true => .lit c .slow

/-- Lamps 0-47 are the key lamps and lamps 48-51 the tally slots (R112). -/
def State.lamp (s : State) (p : PanelId) (l : LampId) : Lamp :=
  if h : l.val < 48 then s.keyLamp p ⟨l.val, h⟩ else s.slotLamp p ⟨l.val - 48, by omega⟩

/-- Every lamp of every entry composed again (R127). -/
def State.compose (s : State) : State :=
  s.onLamps fun x => { x with image := .build 4 fun l => .build 16 fun a => .build 52 fun k => s.lamp ⟨l, a⟩ k }

/-- The lamp image of an entry. -/
def State.lampImage (s : State) (p : PanelId) : Tbl 52 Lamp := s.lamps.image.getP p

end Sys2Proof.Machine
end

