-- ==== Sys2Proof/Machine/Roster.lean ====
section
/-! DEFINITION. The panel roster (sections 7.1 to 7.3): states of an entry, the key image, and the dispatch of key events. -/

namespace Sys2Proof.Machine

/-- What a valid reply of a panel says (section 6.2). -/
inductive LoopReply where
  | ident (i : Ident)
  | keys (more : Bool) (events : List KeyEvent)
  | state (down : BitVec 48)
  | hold
  | quiet
deriving DecidableEq, Repr

/-- A roster entry changed. -/
def State.onEntry (s : State) (p : PanelId) (f : RosterEntry → RosterEntry) : State := s.setEntry p (f (s.entry p))

/-- An address's state-wanted mark set or cleared (R99). -/
def State.setWanted (s : State) (p : PanelId) (on : Bool) : State :=
  s.setLoop p.loop { s.loop p.loop with wanted := (s.loop p.loop).wanted.set p.addr on }

/-- An address's state-wanted mark and hold-off flag cleared (R99, R102). -/
def State.clearFlags (s : State) (p : PanelId) : State :=
  s.setLoop p.loop
    { s.loop p.loop with
      wanted := (s.loop p.loop).wanted.set p.addr false
      holdOff := (s.loop p.loop).holdOff.set p.addr false }

/-- The refused-press displays of an entry cleared (R127). -/
def State.clearRefused (s : State) (p : PanelId) : State :=
  s.onLamps fun l => { l with refused := l.refused.setP p (.replicate 48 false) }

/-- Whether a function is TALK or LISTEN. -/
def KeyFn.isIntercom : KeyFn → Bool
  | .talk _ => true
  | .listen _ => true
  | _ => false

/-- Whether a function is TALK. -/
def KeyFn.isTalk : KeyFn → Bool
  | .talk _ => true
  | _ => false

/-- Whether a key is held down, with or without a mark (R112). -/
def KeyHold.isDown : KeyHold → Bool
  | .up => false
  | _ => true

/-- A key's assignment. -/
def State.assign (s : State) (p : PanelId) (k : KeyId) : KeyAssign := (s.keyMap p).keys.get k

/-- The keys of an entry that pass a test and are held down are marked stale-down (R116, R125). -/
def State.markStale (s : State) (p : PanelId) (f : KeyFn → Bool) : State :=
  s.onEntry p fun e =>
    { e with
      keys := .build 48 fun k => if (e.keys.get k).isDown && f (s.assign p k).fn then .stale else e.keys.get k }

/-! ## States of an entry (R114 to R120) -/

/-- Entry to JOINING (R114). -/
def State.enterJoining (s : State) (p : PanelId) (ident : Option Ident) : State :=
  (s.onEntry p fun e =>
    { e with
      state := .joining
      ident := match ident with | some i => some i | none => e.ident
      sent := .replicate 52 none
      keys := .replicate 48 .up
      lostAt := none }).clearRefused p

/-- Entry to ACTIVE (R35, R115). -/
def State.enterActive (s : State) (p : PanelId) : State := (s.onEntry p fun e => { e with state := .active }).locksActive p

/-- Return to ACTIVE from SILENT: the state-wanted mark is set (R117). -/
def State.returnActive (s : State) (p : PanelId) : State :=
  ((s.onEntry p fun e => { e with state := .active }).setWanted p true).locksActive p

/-- Entry to SILENT (R116). -/
def State.enterSilent (s : State) (p : PanelId) : State :=
  ((s.onEntry p fun e => { e with state := .silent }).talkSilent p).markStale p KeyFn.isTalk

/-- Entry to LOST; a RESTART's passage sets no lock deadline (R118, R120). -/
def State.enterLost (s : State) (p : PanelId) (deadlines : Bool) : State :=
  let s := (s.onEntry p fun e => { e with state := .lost, lostAt := some s.clock }).talkLost p
  let s := if deadlines then s.locksLost p else s
  ((s.onEntry p fun e => { e with selected := none, keys := .replicate 48 .up }).clearRefused p).clearFlags p

/-- An entry becomes EMPTY (R119). -/
def State.enterEmpty (s : State) (p : PanelId) : State :=
  (s.onEntry p fun e =>
    { e with
      state := .empty
      ident := none
      missed := 0
      lastFault := none
      sent := .replicate 52 none
      lostAt := none }).clearFlags p

/-- The ROSTER item of a change of state, if there was one (R132). -/
def State.rosterItem (s : State) (p : PanelId) (before : RosterState) : List RosterItem :=
  let e := s.entry p
  if e.state = before then []
  else
    [{ addr := p.addr, before := before, after := e.state, missed := e.missed, lastFault := e.lastFault
       ident := if e.state = .joining then e.ident else none }]

/-- A ROSTER notice of the changes that one report or event made, if any (R132). -/
def State.raiseRoster (s : State) (l : LoopId) (cause : RosterCause) (items : List RosterItem) : State :=
  s.raiseIf (!items.isEmpty) (.roster l cause items)

/-! ## Key events (R121 to R123) -/

/-- A dispatched DOWN is handed to the owner of the key's function (R123). -/
def State.dispatchDown (s : State) (p : PanelId) (k : KeyId) : State :=
  let a := s.assign p k
  match a.fn with
  | .unused => s
  | .talk t => s.pressTalk p k t a.priority
  | .listen t => s.pressListen p k t
  | .dest d => s.pressDest p d
  | .source f => s.pressSource p k f
  | .lock => s.pressLock p
  | .salvo n => s.pressSalvo p k n

/-- A dispatched UP is handed to the owner of the key's function; only a TALK key's owner acts on it (R123). -/
def State.dispatchUp (s : State) (p : PanelId) (k : KeyId) : State :=
  let a := s.assign p k
  match a.fn with
  | .talk _ => s.releaseTalk p k a.noLatch
  | _ => s

/-- A key of the key image set. -/
def State.setKeyHold (s : State) (p : PanelId) (k : KeyId) (h : KeyHold) : State :=
  s.onEntry p fun e => { e with keys := e.keys.set k h }

/-- A key found down enters the key image: deferred for a TALK or LISTEN key in JOINING, dispatched otherwise (R115, R121, R122). -/
def State.admitDown (s : State) (p : PanelId) (k : KeyId) : State :=
  if (s.entry p).state == .joining && (s.assign p k).fn.isIntercom then s.setKeyHold p k .deferred
  else (s.setKeyHold p k .down).dispatchDown p k

/-- A DOWN event applied (R121). -/
def State.keyDown (s : State) (p : PanelId) (k : KeyId) : State :=
  match (s.entry p).keys.get k with
  | .up => s.admitDown p k
  | _ => s

/-- An UP event applied; any UP ends the key's refused-press display (R121, R127). -/
def State.keyUp (s : State) (p : PanelId) (k : KeyId) : State :=
  let held := (s.entry p).keys.get k
  let s := (s.setKeyHold p k .up).setRefused p k false
  if held = .down then s.dispatchUp p k else s

/-- The key count of an entry. -/
def State.keyCount (s : State) (p : PanelId) : Nat := match (s.entry p).ident with | some i => i.keys | none => 0

/-- One event of a KEYS reply (R121). -/
def State.keyEvent (s : State) (p : PanelId) (e : KeyEvent) : State :=
  match indexOf 48 e.key with
  | none => s
  | some k => if e.key < s.keyCount p then (if e.down then s.keyDown p k else s.keyUp p k) else s

/-- The keys below an entry's key count, ascending. -/
def State.keysInCount (s : State) (p : PanelId) : List KeyId := (indices 48).filter fun k => k.val < s.keyCount p

/-- A STATE reply applied: first the keys it shows up, then the keys it shows down (R122). -/
def State.keyImage (s : State) (p : PanelId) (down : BitVec 48) : State :=
  let ups := (s.keysInCount p).filter fun k => ((s.entry p).keys.get k).isDown && !down.getLsbD k.val
  let t := forEach ups (fun s k => s.keyUp p k) s
  let downs := (t.keysInCount p).filter fun k =>
    down.getLsbD k.val && ((t.entry p).keys.get k == .up || (t.entry p).keys.get k == .deferred)
  forEach downs (fun s k => s.admitDown p k) t

/-! ## Reports of a loop controller (R113) -/

/-- The change of state that a valid reply to a message causes (R114, R115, R117, R119). -/
def State.replyMoves (s : State) (p : PanelId) (query : Bool) (r : LoopReply) : State :=
  match (s.entry p).state, r with
  | .lost, .ident i => s.enterJoining p (some i)
  | .lost, _ => s.enterJoining p none
  | .joining, .state _ => if query then s.enterActive p else s
  | .silent, _ => s.returnActive p
  | _, _ => s

/-- The contents of a reply applied under the new state (R121, R122). -/
def State.applyContents (s : State) (p : PanelId) (r : LoopReply) : State :=
  match r with
  | .keys _ es => forEach es (fun s e => s.keyEvent p e) s
  | .state down => s.keyImage p down
  | _ => s

/-- The cause of a ROSTER notice for a reply: ENROL where it answered an ENROL (R132; log entry 13). -/
def replyCause (m : LoopMessage) : RosterCause :=
  match m with
  | .enrol _ => .enrol
  | _ => .reply

/-- A valid reply reported: the counts, the change of state with its notice, then the contents (R113). An EMPTY entry takes a valid IDENT
to an ENROL alone. -/
def State.reportReply (s : State) (p : PanelId) (m : LoopMessage) (r : LoopReply) : State :=
  let before := (s.entry p).state
  if before = .empty then
    match m, r with
    | .enrol _, .ident i =>
      let s := (s.onEntry p fun e => { e with missed := 0, lastFault := none }).enterJoining p (some i)
      s.raiseRoster p.loop .enrol (s.rosterItem p before)
    | _, _ => s
  else
    let s := (s.onEntry p fun e => { e with missed := 0, lastFault := none }).replyMoves p (m == .stateQuery) r
    (s.raiseRoster p.loop (replyCause m) (s.rosterItem p before)).applyContents p r

/-- A miss applied to an entry that is not EMPTY, with the change of state it causes (R113, R115 to R118). -/
def State.applyMiss (s : State) (p : PanelId) (f : LoopFault) : State :=
  let before := (s.entry p).state
  if before = .empty then s
  else
    let s := s.onEntry p fun e => { e with missed := bump255 e.missed, lastFault := some f }
    let n := (s.entry p).missed
    match before with
    | .active => if Config.missesToSilent ≤ n then s.enterSilent p else s
    | .silent => if Config.missesToLost ≤ n then s.enterLost p true else s
    | .joining => if Config.missesToLost ≤ n then s.enterLost p true else s
    | _ => s

/-- A miss reported for one entry (R113, R132). -/
def State.reportMiss (s : State) (p : PanelId) (f : LoopFault) : State :=
  let before := (s.entry p).state
  let s := s.applyMiss p f
  s.raiseRoster p.loop .miss (s.rosterItem p before)

/-- The entries of a loop, ascending. -/
def panelsOf (l : LoopId) : List PanelId := (indices 16).map fun a => ⟨l, a⟩

/-- A miss handed to every entry of a loop at a line fault or a failed rate search, with one notice (R106, R107, R132). The entries take
theirs in ascending address order (log entry 13, DESIGN CHOICE: the rules order the items of the notice alone). -/
def State.missAll (s : State) (l : LoopId) (f : LoopFault) (cause : RosterCause) : State :=
  let t := forEach (panelsOf l) (fun s p => s.applyMiss p f) s
  t.raiseRoster l cause ((panelsOf l).flatMap fun p => t.rosterItem p (s.entry p).state)

/-- An entry that is not EMPTY is taken through LOST to EMPTY (R120). -/
def State.passage (s : State) (p : PanelId) (deadlines : Bool) : State :=
  if (s.entry p).state = .empty then s else (s.enterLost p deadlines).enterEmpty p

/-- Every entry of a loop is taken through LOST to EMPTY, with one notice (R120, R132), in ascending address order (log entry 13, DESIGN
CHOICE: the rules order the items of the notice alone). -/
def State.passLoop (s : State) (l : LoopId) (cause : RosterCause) (deadlines : Bool) : State :=
  let t := forEach (panelsOf l) (fun s p => s.passage p deadlines) s
  t.raiseRoster l cause ((panelsOf l).flatMap fun p => t.rosterItem p (s.entry p).state)

/-- The roster hold of a LOST entry expires (R119). -/
def State.holdExpires (s : State) (p : PanelId) : State :=
  let before := (s.entry p).state
  let s := s.enterEmpty p
  s.raiseRoster p.loop .holdExpiry (s.rosterItem p before)

end Sys2Proof.Machine
end

