-- ==== Sys2Proof/Machine/LoopLine.lean ====
section
/-! DEFINITION. The loop controller (chapter 6): rate arithmetic, the receiver, replies, the choice of the next message, exchanges, loop
states and the restart treatment. -/

namespace Sys2Proof.Machine

/-! ## Rate arithmetic (R103, R105) -/

/-- The working bit time round(N * 200 / (184 + code)), a half rounded up (R103). -/
def workingBitTime (nominal trim : Nat) : Nat := (2 * nominal * 200 + (184 + trim)) / (2 * (184 + trim))

/-- A loop's working bit time (R103). -/
def Loop.working (x : Loop) : Nat := workingBitTime x.nominal x.trim

/-- One character time: 11 bit times (R90). -/
def Loop.charTime (x : Loop) : Nat := 11 * x.working

/-- The nominal bit time of a fixed rate setting (R103). -/
def RateSetting.nominal : RateSetting → Option Nat
  | .r62500 => some 384
  | .r125000 => some 192
  | .r250000 => some 96
  | .r500000 => some 48
  | .auto => none

/-- How far two numbers lie apart. -/
def apart (a b : Nat) : Nat := (a - b) + (b - a)

/-- The nominal bit time closest to a measured start bit, the larger of two equally far (R105). -/
def nearestNominal (c : Nat) : Nat :=
  [192, 96, 48].foldl (fun best n => if apart n c < apart best c then n else best) 384

/-- The trim code of a measured start bit, a half rounded toward 16; none outside 0-31 (R105). -/
def searchCode (nominal c : Nat) : Option Nat :=
  let step := (2 * (200 * apart nominal c) + c - 1) / (2 * c)
  if c ≤ nominal then (if 16 + step ≤ 31 then some (16 + step) else none)
  else if step ≤ 16 then some (16 - step)
  else none

/-! ## The receiver (R92, R93) -/

/-- The majority of each bit's three samples (R92). -/
def majority (c : LineChar) : BitVec 11 := (c.early &&& c.centre) ||| (c.early &&& c.late) ||| (c.centre &&& c.late)

/-- The character received from its samples; none for a glitch (R92). -/
def readChar (c : LineChar) : Option LoopChar :=
  let m := majority c
  if m.getLsbD 0 then none
  else
    some { data := m.extractLsb' 1 8, mark := m.getLsbD 9, noise := !(c.early == c.centre && c.centre == c.late)
           framing := !m.getLsbD 10 }

/-- Whether the receiver takes characters: in RUNNING while the driver is released, in the waits of STARTING and of a search attempt
(R91, R92, R106). -/
def Loop.listens (x : Loop) : Bool :=
  match x.state with
  | .running => match x.exchange with | some ⟨_, _, .sending⟩ => false | _ => true
  | .starting _ wait => wait.isSome
  | .rateSearch _ (.waiting _) => true
  | _ => false

/-- Whether an exchange waits for a reply or is receiving one (R95, R96). -/
def Loop.awaits (x : Loop) : Option LoopExchange :=
  match x.state, x.exchange with
  | .running, some ⟨_, _, .sending⟩ => none
  | .running, some e => some e
  | _, _ => none

/-! ## Replies (R94, R95, R97) -/

/-- The number of characters a reply implies, once its kind character and, for KEYS, its event count are known (R94, 12.6). -/
def impliedLength : List LoopChar → Option Nat
  | _ :: k :: rest =>
    if k.data = identKind then some 7
    else if k.data = stateKind then some 9
    else if k.data = holdKind ∨ k.data = quietKind then some 3
    else if k.data = keysKind then
      match rest with
      | c :: _ => let n := c.data.toNat % 16; if 1 ≤ n ∧ n ≤ 8 then some (4 + n) else none
      | [] => none
    else none
  | _ => none

/-- Whether a reply is complete (R94). -/
def replyComplete (cs : List LoopChar) : Bool := impliedLength cs == some cs.length

/-- Whether a kind character is admitted for a message (R97). -/
def LoopMessage.admits (m : LoopMessage) (k : Byte) : Bool :=
  match m with
  | .poll _ => k == keysKind || k == holdKind || k == quietKind
  | .stateQuery => k == stateKind
  | .enrol true => k == identKind
  | .enrol false => k == identKind || k == keysKind || k == stateKind || k == holdKind || k == quietKind

/-- Whether the fields of a reply that have been received lie outside their ranges (R95, 12.6). -/
def badFields (kind : Byte) (body : List Byte) : Bool :=
  if kind = identKind then
    let at? := fun (i : Nat) (bad : Nat → Bool) => match body[i]? with | some b => bad b.toNat | none => false
    at? 0 (fun n => decide (3 < n)) || at? 1 (fun n => decide (n < 1 ∨ 48 < n)) || at? 2 (fun n => decide (4 < n))
  else if kind = keysKind then
    match body with
    | [] => false
    | c :: es =>
      let n := c.toNat % 16
      decide (n < 1 ∨ 8 < n) || (es.take n).any fun b => decide (48 ≤ b.toNat % 64)
  else false

/-- The CHECK faults of a reply, judged on the characters received (R95). -/
def checkFault (addr : AddrIx) (m : LoopMessage) (cs : List LoopChar) : Bool :=
  match cs with
  | [] => false
  | a :: rest =>
    !(a.mark && a.data.toNat == addressOf addr) || rest.any (fun c => c.mark)
      || (match rest with
          | [] => false
          | k :: body => !m.admits k.data || badFields k.data (body.map fun c => c.data))
      || (replyComplete cs && byteSum (rest.map fun c => c.data) != 0)

/-- The fault of a reply that is not valid, the first of R95's list; none for a valid one. `ended` when the gap ended it. -/
def replyFault (x : Loop) (e : LoopExchange) (cs : List LoopChar) (ended : Bool) : Option LoopFault :=
  if x.overrun then some .overrun
  else if cs.any fun c => c.framing then some .framing
  else if cs.any fun c => c.noise then some .noise
  else if checkFault e.addr e.message cs then some .check
  else if ended then some .timeout
  else none

/-- The kind of a panel (12.6). -/
def panelKindOf : Nat → Option PanelKind
  | 0 => some .key
  | 1 => some .router
  | 2 => some .camera
  | 3 => some .combined
  | _ => none

/-- A key event character (12.6). -/
def keyEventOf (b : Byte) : KeyEvent := { key := b.toNat % 64, down := b.getLsbD 7 }

/-- What the bytes of a valid reply after its address character say (12.6). -/
def readReply : List Byte → Option LoopReply
  | kind :: body =>
    if kind = identKind then
      match body with
      | [k, n, m, r, _] => (panelKindOf k.toNat).map fun k => .ident { kind := k, keys := n.toNat, slots := m.toNat, revision := r.toNat }
      | _ => none
    else if kind = keysKind then
      match body with
      | c :: es => some (.keys (c.getLsbD 7) ((es.take (c.toNat % 16)).map keyEventOf))
      | [] => none
    else if kind = stateKind then
      match body with
      | [a, b, c, d, e, f, _] => some (.state (f ++ (e ++ (d ++ (c ++ (b ++ a))))))
      | _ => none
    else if kind = holdKind then some .hold
    else if kind = quietKind then some .quiet
    else none
  | [] => none

/-- The characters of a reply as a panel sends it (12.6). -/
def replyChars (addr : AddrIx) (data : List Byte) : List LoopChar :=
  { data := byteOf (addressOf addr), mark := true, noise := false, framing := false }
    :: data.map fun b => { data := b, mark := false, noise := false, framing := false }

/-! ## The next message (R98 to R101) -/

/-- The lamps of an entry that are sendable: tally slots first, then key lamps (R101). -/
def RosterEntry.sendable (e : RosterEntry) : List LampId :=
  match e.ident with
  | none => []
  | some i =>
    (indices 52).filter (fun l => decide (48 ≤ l.val) && decide (l.val < 48 + i.slots))
      ++ (indices 52).filter (fun l => decide (l.val < 48) && decide (l.val < i.keys))

/-- The sendable lamps whose image value differs from their sent value, with that value (R101). -/
def State.differing (s : State) (p : PanelId) : List (LampId × Lamp) :=
  let e := s.entry p
  let image := s.lampImage p
  (e.sendable.filter fun l => e.sent.get l != some (image.get l)).map fun l => (l, image.get l)

/-- A message as the controller is about to send it, with its address. -/
inductive Next where
  | poll (a : AddrIx)
  | query (a : AddrIx)
  | enrolLost (a : AddrIx)
  | enrolFree (a : AddrIx)
deriving DecidableEq, Repr

/-- The message of a visit to an entry (R99). -/
def State.visit (s : State) (l : LoopId) (a : AddrIx) : Option Next :=
  match (s.entry ⟨l, a⟩).state with
  | .joining => if (s.differing ⟨l, a⟩).isEmpty then some (.query a) else some (.poll a)
  | .active => if (s.loop l).wanted.get a then some (.query a) else some (.poll a)
  | .silent => some (.poll a)
  | .lost => some (.enrolLost a)
  | .empty => none

/-- The next address of a round above a number, with its message (R98). -/
def State.nextVisit (s : State) (l : LoopId) (above : Nat) : Option Next :=
  (indices 16).findSome? fun a => if above < addressOf a then s.visit l a else none

/-- The next free address after the enrolment position, wrapping from 16 to 1 (R100). -/
def State.nextFree (s : State) (l : LoopId) : Option AddrIx :=
  let free := (indices 16).filter fun a => (s.entry ⟨l, a⟩).state == .empty
  match free.find? fun a => (s.loop l).enrolPosition < addressOf a with
  | some a => some a
  | none => free.head?

/-- Whether an entry is one that a further POLL of a visit can go to (R99). -/
def RosterState.polled : RosterState → Bool
  | .joining => true
  | .active => true
  | .silent => true
  | _ => false

/-- The message that the controller sends next (R98 to R100). -/
def State.nextMessage (s : State) (l : LoopId) : Option Next :=
  let x := s.loop l
  let round :=
    match s.nextVisit l x.visited with
    | some n => some n
    | none =>
      match s.nextFree l with
      | some a => some (.enrolFree a)
      | none => s.nextVisit l 0
  match x.more with
  | some (a, _) => if (s.entry ⟨l, a⟩).state.polled then some (.poll a) else round
  | none => round

/-- The changes a POLL carries: none under the hold-off flag, else the first 12 differing lamps (R101, R102). -/
def State.pollChanges (s : State) (l : LoopId) (a : AddrIx) : List (LampId × Lamp) :=
  if (s.loop l).holdOff.get a then [] else (s.differing ⟨l, a⟩).take Config.pollLamps

/-- Whether a loop may begin an exchange: RUNNING with none in progress (R96). -/
def Loop.idle (x : Loop) : Bool := x.state == .running && x.exchange.isNone

/-- An exchange begins: its message is being sent, and the reply buffer is emptied (R94, R96). -/
def Loop.beginExchange (x : Loop) (a : AddrIx) (m : LoopMessage) : Loop :=
  { x with exchange := some ⟨a, m, .sending⟩, buffer := [], overrun := false, visited := addressOf a }

/-- The controller begins a message where it is the next one (R98 to R101). -/
def State.beginMessage (s : State) (l : LoopId) (n : Next) : State :=
  let x := s.loop l
  match n with
  | .poll a => s.setLoop l (x.beginExchange a (.poll (s.pollChanges l a)))
  | .query a => s.setLoop l (x.beginExchange a .stateQuery)
  | .enrolLost a => s.setLoop l (x.beginExchange a (.enrol false))
  | .enrolFree a => s.setLoop l { x.beginExchange a (.enrol true) with enrolPosition := addressOf a, visited := 0 }

/-- The controller begins its next message where it is ready and the message is of a kind. -/
def State.beginIf (s : State) (l : LoopId) (kind : Next → Bool) : State :=
  if (s.loop l).idle then
    match s.nextMessage l with
    | some n => if kind n then s.beginMessage l n else s
    | none => s
  else s

/-- The last stop bit of a message is sent: the reply window starts, and a POLL clears its address's hold-off flag (R96, R102). -/
def Loop.messageSent (x : Loop) (now : Nat) : Loop :=
  match x.exchange with
  | some ⟨a, .poll cs, .sending⟩ =>
    { x with exchange := some ⟨a, .poll cs, .window (now + Config.replyWindow)⟩, holdOff := x.holdOff.set a false }
  | some ⟨a, m, .sending⟩ => { x with exchange := some ⟨a, m, .window (now + Config.replyWindow)⟩ }
  | _ => x

/-! ## The end of an exchange (R95 to R97, R102) -/

/-- A fault counted (R111). -/
def LoopCounts.miss (c : LoopCounts) : LoopFault → LoopCounts
  | .noise => { c with noise := bump c.noise }
  | .framing => { c with framing := bump c.framing }
  | .overrun => { c with overrun := bump c.overrun }
  | .check => { c with check := bump c.check }
  | .timeout => { c with timeout := bump c.timeout }

/-- Whether a message is an ENROL to a free address, whose miss concerns no panel (R97). -/
def LoopMessage.isFree (m : LoopMessage) : Bool := m == .enrol true

/-- An exchange ends missed: counted, and reported unless it was an ENROL to a free address (R95, R97, R99). -/
def State.exchangeMissed (s : State) (l : LoopId) (e : LoopExchange) (f : LoopFault) : State :=
  let s := s.setLoop l { s.loop l with exchange := none, more := none, counts := (s.loop l).counts.miss f }
  if e.message.isFree then s else s.reportMiss ⟨l, e.addr⟩ f

/-- The in-flight set of a POLL settled by a valid reply; a HOLD sets the address's hold-off flag (R102). -/
def State.settleLamps (s : State) (p : PanelId) (m : LoopMessage) (r : LoopReply) : State :=
  match m, r with
  | _, .hold => s.setLoop p.loop { s.loop p.loop with holdOff := (s.loop p.loop).holdOff.set p.addr true }
  | .poll cs, _ => s.onEntry p fun e => { e with sent := cs.foldl (fun t c => t.set c.1 (some c.2)) e.sent }
  | _, _ => s

/-- The visit after a valid reply: MORE asks for a further POLL, up to six exchanges (R99). -/
def moreAfter (more : Option (AddrIx × Nat)) (e : LoopExchange) (r : LoopReply) : Option (AddrIx × Nat) :=
  match e.message, r with
  | .poll _, .keys true _ =>
    let n := (match more with | some (_, n) => n | none => 0) + 1
    if n < Config.moreLimit then some (e.addr, n) else none
  | _, _ => none

/-- A valid reply ends an exchange: the in-flight lamps are settled, a STATE clears the state-wanted mark, and the roster is told
(R97, R99, R102). -/
def State.exchangeAnswered (s : State) (l : LoopId) (e : LoopExchange) (r : LoopReply) : State :=
  let p : PanelId := ⟨l, e.addr⟩
  let s := s.setLoop l { s.loop l with exchange := none, more := moreAfter (s.loop l).more e r }
  let s := s.settleLamps p e.message r
  let s := match r with | .state _ => s.setWanted p false | _ => s
  s.reportReply p e.message r

/-- A reply whose characters have all come is judged and ends its exchange (R95, R97). -/
def State.judgeReply (s : State) (l : LoopId) (e : LoopExchange) (cs : List LoopChar) : State :=
  match replyFault (s.loop l) e cs false with
  | some f => s.exchangeMissed l e f
  | none =>
    match readReply ((cs.drop 1).map fun c => c.data) with
    | some r => s.exchangeAnswered l e r
    | none => s.exchangeMissed l e .check

/-- A stray character counted (R95, R111). -/
def Loop.stray (x : Loop) : Loop := { x with counts := { x.counts with stray := bump x.counts.stray } }

/-- A character ends on a loop's line: taken into the reply, judged where it completes it, or counted as stray (R92 to R95). -/
def State.takeChar (s : State) (l : LoopId) (c : LineChar) : State :=
  let x := s.loop l
  match readChar c with
  | none => s
  | some ch =>
    if x.listens then
      match x.awaits with
      | none => s.setLoop l x.stray
      | some e =>
        let phase : ExchangePhase := .reply (some (s.clock + 2 * x.charTime))
        if x.buffer.length < Config.bufferRoom then
          let cs := x.buffer ++ [ch]
          let s := s.setLoop l { x with buffer := cs, exchange := some { e with phase := phase } }
          if replyComplete cs then s.judgeReply l e cs else s
        else s.setLoop l { x with overrun := true, exchange := some { e with phase := phase } }
    else s

/-- A whole reply, its characters unflagged, comes to an exchange that waits and has received none of it or a first part (log entry 3). -/
def State.takeReply (s : State) (l : LoopId) (data : List Byte) : State :=
  let x := s.loop l
  match x.awaits with
  | none => s
  | some e =>
    let cs := replyChars e.addr data
    if x.buffer.isPrefixOf cs && !x.overrun && replyComplete cs then (s.setLoop l { x with buffer := cs }).judgeReply l e cs else s

/-- The start bit of a reply begins within the window (R96). -/
def Loop.replyBegins (x : Loop) : Loop :=
  match x.exchange with
  | some ⟨a, m, .window _⟩ => { x with exchange := some ⟨a, m, .reply none⟩ }
  | _ => x

/-! ## Loop states (R104 to R107) -/

/-- The loop enters RUNNING, and its first round begins (R104, R105, R110). -/
def State.enterRunning (s : State) (l : LoopId) : State :=
  let x := s.loop l
  (s.setLoop l { x with state := .running, visited := 0, more := none, exchange := none }).raise
    (.loop l (.running x.rate x.nominal x.trim x.working))

/-- The loop enters LINE_FAULT; a failed restart attempt raises no notice (R107). -/
def State.enterLineFault (s : State) (l : LoopId) (was : FaultedFrom) (notice : Bool) : State :=
  let x := s.loop l
  let s := s.setLoop l
    { x with
      state := .lineFault (s.clock + Config.lineRestart)
      exchange := none
      more := none
      counts := { x.counts with lineFaults := bump x.counts.lineFaults } }
  (s.raiseIf notice (.loop l (.lineFault was))).missAll l .framing .line

/-- A long break where the receiver takes it (R93, R104, R106, R107). -/
def State.longBreak (s : State) (l : LoopId) : State :=
  let x := s.loop l
  if x.listens then
    match x.state with
    | .running => s.enterLineFault l .running true
    | .starting attempt _ => s.enterLineFault l .starting (!attempt)
    | .rateSearch .. => s.enterLineFault l .rateSearch true
    | _ => s
  else s

/-- A break has been sent: the 100 ms wait starts (R104, R106). -/
def Loop.breakSent (x : Loop) (now : Nat) : Loop :=
  match x.state with
  | .starting a none => { x with state := .starting a (some (now + Config.startingWait)) }
  | .rateSearch f .breaking => { x with state := .rateSearch f (.waiting (now + Config.startingWait)) }
  | _ => x

/-- The 100 ms wait ends: RUNNING, RATE_SEARCH or LINE_FAULT by the line and the rate setting, or an attempt's next listen
(R104, R106). -/
def State.waitEnds (s : State) (l : LoopId) (lineHigh : Bool) : State :=
  let x := s.loop l
  match x.state with
  | .starting attempt _ =>
    if lineHigh then
      if x.rate = .auto then s.setLoop l { x with state := .rateSearch false (.listening (s.clock + Config.searchListen)) }
      else s.enterRunning l
    else s.enterLineFault l .starting (!attempt)
  | .rateSearch f _ => s.setLoop l { x with state := .rateSearch f (.listening (s.clock + Config.searchListen)) }
  | _ => s

/-- A rate search fails (R106). -/
def State.searchFails (s : State) (l : LoopId) (failed : Bool) (why : LoopChange) : State :=
  let x := s.loop l
  let s := s.setLoop l
    { x with
      state := .rateSearch true (.pausing (s.clock + Config.searchRetry))
      counts := { x.counts with searchFailures := bump x.counts.searchFailures } }
  (s.raiseIf (!failed) (.loop l why)).missAll l .timeout .search

/-- The start bit of the rate mark measured as `c` reference clocks (R105). -/
def State.measured (s : State) (l : LoopId) (c : Nat) : State :=
  let x := s.loop l
  match x.state with
  | .rateSearch failed (.listening _) =>
    let n := nearestNominal c
    match searchCode n c with
    | some code => s.setLoop l { x with nominal := n, trim := code, state := .rateSearch failed .guard }
    | none => s.searchFails l failed (.searchRange c)
  | _ => s

/-! ## The restart treatment (R108, R109) -/

/-- The exchange is abandoned and the marks and flags of all 16 addresses are cleared (R109). -/
def Loop.abandoned (x : Loop) : Loop :=
  { x with exchange := none, more := none, visited := 0, wanted := .replicate 16 false, holdOff := .replicate 16 false }

/-- The restart treatment of a loop, ending in a state (R109). -/
def State.restartLoop (s : State) (l : LoopId) (cause : RosterCause) (deadlines : Bool) (after : LoopState) : State :=
  let s := (s.setLoop l (s.loop l).abandoned).passLoop l cause deadlines
  s.setLoop l { (s.loop l).abandoned with state := after }

/-- Every loop that is not DISABLED receives the restart treatment, and every entry passes to EMPTY, under a RESTART (R109, R120), loop by
loop in ascending number (log entry 19, DESIGN CHOICE: no rule orders the loops). -/
def State.restartLoops (s : State) : State :=
  forEach (indices 4)
    (fun s l =>
      if (s.loop l).state = .disabled then s.passLoop l .restart false
      else s.restartLoop l .restart false (.starting false none)) s

end Sys2Proof.Machine
end

