-- ==== Sys2Proof/Machine/PanelRequests.lean ====
section
/-! DEFINITION. The requests of the loop controllers and the panel roster (chapters 6 and 7). -/

namespace Sys2Proof.Machine

/-! ## SET_LOOP and LOOP_RESTART (R108, R109) -/

/-- A loop's enable, rate values and state as now held (R108). -/
def State.loopData (s : State) (l : LoopId) : List Byte :=
  let x := s.loop l
  u8 l.val ++ u8 (if x.state = .disabled then 0 else 1) ++ u8 (rateCode x.rate) ++ u16 x.nominal ++ u8 x.trim ++ u16 x.working
    ++ u8 (loopStateCode x.state)

/-- The rate and trim written where present; a fixed rate brings its nominal bit time (R103, R108). -/
def Loop.writeRate (x : Loop) (rate : Option RateSetting) (trim : Option Nat) : Loop :=
  let r := rate.getD x.rate
  { x with rate := r, nominal := r.nominal.getD x.nominal, trim := trim.getD x.trim }

/-- The loop after its fields are written: enabled, disabled or restarted (R108). Of a disabling's two notices ROSTER is raised before
LOOP (log entry 15, DESIGN CHOICE: R108 gives no order). -/
def State.loopGoes (s : State) (l : LoopId) (wasOff on : Bool) : State :=
  if wasOff then (if on then s.setLoop l { s.loop l with state := .starting false none } else s)
  else if on then s.restartLoop l .rate true (.starting false none)
  else (s.restartLoop l .disable true .disabled).raise (.loop l .disabled)

/-- SET_LOOP (R108). -/
def serveSetLoop (loop : Nat) (enable rate trim : Option Nat) (s : State) : State × Answer :=
  match indexOf 4 loop, optOf boolOf enable, optOf rateOf rate with
  | some l, some en, some r =>
    let x := s.loop l
    let off := decide (x.state = .disabled)
    let on := en.getD (!off)
    let code := trim.map (min · 31)
    let t :=
      if on = !off ∧ r.getD x.rate = x.rate ∧ code.getD x.trim = x.trim then s
      else (s.setLoop l (x.writeRate r code)).loopGoes l off on
    (t, ⟨.done, t.loopData l⟩)
  | _, _, _ => (s, refused .range)

/-- LOOP_RESTART (R109). -/
def serveLoopRestart (loop : Nat) (s : State) : State × Answer :=
  match indexOf 4 loop with
  | none => (s, refused .range)
  | some l =>
    if (s.loop l).state = .disabled then (s, refused .state)
    else (s.restartLoop l .loopRestart true (.starting false none), ⟨.done, []⟩)

/-! ## SET_KEYMAP (R125) -/

/-- Whether no key number stands twice in a list of assignments (R125). -/
def distinctKeys (ks : List (KeyId × KeyAssign)) : Bool := decide ((ks.map (·.1)).Nodup)

/-- The key assignments with those of a request written. -/
def KeyMapEntry.writeKeys (m : KeyMapEntry) (ks : List (KeyId × KeyAssign)) : KeyMapEntry :=
  { m with keys := ks.foldl (fun t k => t.set k.1 k.2) m.keys }

/-- The keys whose assignment a request changes, ascending (R125). -/
def KeyMapEntry.changed (old new : KeyMapEntry) : List KeyId := (indices 48).filter fun k => old.keys.get k != new.keys.get k

/-- The key map entry of a SET_KEYMAP reply: production, panel port and the listed keys as now held (R125), each with its key number and in
the request's order (log entry 20, DESIGN CHOICE). -/
def State.keymapData (s : State) (p : PanelId) (ks : List (KeyId × KeyAssign)) : List Byte :=
  u8 (prod3Code (s.keyMap p).production) ++ optIndex (s.keyMap p).port
    ++ listOf (fun (k : KeyId × KeyAssign) => u8 k.1.val ++ keyAssignBytes (s.assign p k.1)) ks

/-- A changed key: its refused-press display is cleared, and it is marked stale-down where it is held down (R125). -/
def State.changeKey (s : State) (p : PanelId) (k : KeyId) : State :=
  let s := s.setRefused p k false
  if ((s.entry p).keys.get k).isDown then s.setKeyHold p k .stale else s

/-- SET_KEYMAP applied: the talk engine is told each changed key, then a changed panel port (R125, R151). -/
def State.writeKeymap (s : State) (p : PanelId) (new : KeyMapEntry) : State :=
  let old := s.keyMap p
  let changed := old.changed new
  let moved := decide (new.port ≠ old.port)
  let s := s.setKeymap p new
  let s :=
    if changed.isEmpty && !moved then s
    else
      s.talkEvent fun w =>
        let w := changed.foldl (fun w k => w.endKey p k) w
        if moved then w.endPanel p .keymap else w
  let s := forEach changed (fun s k => s.changeKey p k) s
  if moved then s.markStale p KeyFn.isIntercom else s

/-- SET_KEYMAP (R125). -/
def serveSetKeymap (loop address : Nat) (production port : Option Nat) (keys : List RawKey) (s : State) : State × Answer :=
  match panelOf loop address, optOf prod3Of production, optOf (optIndexOf 96) port, allOf keyAssignOf keys with
  | some p, some q, some n, some ks =>
    if 48 < ks.length ∨ !distinctKeys ks then (s, refused .range)
    else
      let old := s.keyMap p
      let new := { old.writeKeys ks with production := q.getD old.production, port := n.getD old.port }
      let t := s.writeKeymap p new
      (t, ⟨.done, t.keymapData p ks⟩)
  | _, _, _, _ => (s, refused .range)

/-! ## SET_SLOTS (R126) -/

/-- The four slots as now held. -/
def State.slotData (s : State) (p : PanelId) : List Byte := (indices 4).flatMap fun j => optIndex ((s.keyMap p).slots.get j)

/-- A slot written where its field is present. -/
def writeSlot (t : Tbl 4 (Option SourceId)) (j : SlotId) (x : Option (Option SourceId)) : Tbl 4 (Option SourceId) :=
  match x with
  | some v => t.set j v
  | none => t

/-- SET_SLOTS (R126). -/
def serveSetSlots (loop address : Nat) (slot0 slot1 slot2 slot3 : Option Nat) (s : State) : State × Answer :=
  let f := optOf (optIndexOf 128)
  match panelOf loop address, f slot0, f slot1, f slot2, f slot3 with
  | some p, some a, some b, some c, some d =>
    let m := s.keyMap p
    let t := s.setKeymap p { m with slots := writeSlot (writeSlot (writeSlot (writeSlot m.slots 0 a) 1 b) 2 c) 3 d }
    (t, ⟨.done, t.slotData p⟩)
  | _, _, _, _, _ => (s, refused .range)

end Sys2Proof.Machine
end

