-- ==== Sys2Proof/Machine/Reads.lean ====
section
/-! DEFINITION. The requests that read (R37, R89, R133, R161, R162, R186, R199) and their bodies. A read changes no state. -/

namespace Sys2Proof.Machine

/-! ## READ_TALLY (R89) -/

/-- The header of a production's view: state, AGAIN, count, cycle condition. -/
def engineBytes (e : Engine) : List Byte :=
  u8 (if e.running.isSome then 1 else 0) ++ flag e.again ++ u16 e.count ++ flags [e.cycle.isSome] ++ present? cutBytes e.cycle

/-- The record of a source in a production's view. -/
def tallyBytes (r : TallyRec) : List Byte := u8 (colourCode r.colour) ++ u16 r.air ++ u16 r.preview ++ flags [r.forced, r.uncertain]

/-- The sources of a range. -/
def sourceRange (first count : Nat) : List SourceId := (indices 128).filter fun x => decide (first ≤ x.val ∧ x.val < first + count)

/-- The body of a view; the header of COMBINED carries A's publication count and then B's (log entry 20, DESIGN CHOICE: R89 gives no order). -/
def State.tallyView (s : State) (v : Prod3) (xs : List SourceId) : List Byte :=
  match v with
  | .a => engineBytes s.engines.a ++ xs.flatMap fun x => tallyBytes (s.engines.a.published.get x)
  | .b => engineBytes s.engines.b ++ xs.flatMap fun x => tallyBytes (s.engines.b.published.get x)
  | .both =>
    u16 s.engines.a.count ++ u16 s.engines.b.count
      ++ xs.flatMap fun x => u8 (colourCode (s.combinedColour x)) ++ flag (s.combinedUncertain x)

/-- READ_TALLY (R89). -/
def readTallyAnswer (s : State) (view first count : Nat) : Answer :=
  match prod3Of view with
  | none => refused .range
  | some v =>
    if 127 < first ∨ count = 0 ∨ 32 < count ∨ 128 < first + count then refused .range
    else ⟨.done, s.tallyView v (sourceRange first count)⟩

/-! ## READ_DEST (R37) -/

/-- The release deadline of a lock. -/
def Dest.deadline (x : Dest) : Option Nat := x.lock.bind fun k => k.deadline

/-- A destination's take list entry with its position in the list, counted from 0 (log entry 20, DESIGN CHOICE: R37 gives no base;
the Conventions count indices from 0, the table of 2.8 counts list positions from 1). -/
def Crosspoint.listed (x : Crosspoint) (d : DestId) : Option (TakeEntry × Nat) :=
  (x.takeFor d).map fun e => (e, (x.takes.takeWhile fun t => t.dest != d).length)

/-- READ_DEST (R37). -/
def readDestAnswer (s : State) (dest : Nat) : Answer :=
  match indexOf 64 dest with
  | none => refused .range
  | some d =>
    let x := s.dest d
    let e := s.xpt.listed d
    let a := s.map.attrs.get d
    ⟨.done,
      optIndex x.expected ++ destStateBytes x.state ++ u8 x.retryCount.val
        ++ flags [x.lock.isSome, x.deadline.isSome, x.lastOrigin.isSome, e.isSome]
        ++ present? (fun k => identityBytes k.owner) x.lock ++ present? (fun t => u16 (msLeft s.clock t)) x.deadline
        ++ present? takeOriginBytes x.lastOrigin
        ++ present? (fun y => optIndex y.1.source ++ takeOriginBytes y.1.origin ++ flag y.1.forced ++ u8 y.2) e
        ++ u8 (prod3Code a.production) ++ flags [a.record, a.arm]⟩

/-! ## READ_ROSTER (R133) -/

/-- A key of the key image. -/
def keyHoldCode : KeyHold → Nat
  | .up => 0
  | .down => 1
  | .stale => 2
  | .deferred => 3

/-- The milliseconds that remain of a LOST entry's roster hold. -/
def RosterEntry.holdLeft (e : RosterEntry) (now : Nat) : Option Nat := e.lostAt.map fun t => msLeft now (t + Config.rosterHold)

/-- The body of part ENTRY: its presence byte has one bit each for kind, key count, slot count, revision, the selected destination and the
hold's milliseconds (12.2, R112, R133, R203). -/
def State.entryBytes (s : State) (p : PanelId) : List Byte :=
  let e := s.entry p
  let known := e.ident.isSome
  u8 (rosterStateCode e.state) ++ flags [known, known, known, known, e.selected.isSome, e.lostAt.isSome] ++ present? identBytes e.ident
    ++ u8 e.missed ++ u8 (lastFaultCode e.lastFault) ++ present? (fun d => u8 d.val) e.selected ++ present? u16 (e.holdLeft s.clock)
    ++ e.keys.cells.flatMap (fun k => u8 (keyHoldCode k)) ++ (s.lampImage p).cells.map lampByte
    ++ e.sent.cells.map (fun x => match x with | some v => lampByte v | none => 0xFF#8)
    ++ listOf (fun (k : KeyId) => u8 k.val) ((indices 48).filter fun k => (s.lamps.refused.getP p).get k)

/-- The body of part SUMMARY. -/
def State.summaryBytes (s : State) (l : LoopId) : List Byte :=
  (panelsOf l).flatMap fun p => let e := s.entry p; u8 (rosterStateCode e.state) ++ u8 e.missed ++ u8 (lastFaultCode e.lastFault)

/-- The body of part KEYMAP. -/
def State.keymapBytes (s : State) (p : PanelId) : List Byte :=
  let m := s.keyMap p
  u8 (prod3Code m.production) ++ optIndex m.port ++ m.keys.cells.flatMap keyAssignBytes ++ m.slots.cells.flatMap (fun x => optIndex x)

/-- READ_ROSTER (R133): part 0 SUMMARY, 1 ENTRY, 2 KEYMAP. -/
def readRosterAnswer (s : State) (loop part address : Nat) : Answer :=
  match indexOf 4 loop with
  | none => refused .range
  | some l =>
    match part, panelOf loop address with
    | 0, _ => ⟨.done, s.summaryBytes l⟩
    | 1, some p => ⟨.done, s.entryBytes p⟩
    | 2, some p => ⟨.done, s.keymapBytes p⟩
    | _, _ => refused .range

/-! ## READ_TALKS and READ_LISTENER (R161, R162) -/

/-- The key state of a talk record, absent for LINK (R134). -/
def Talk.keyStateOf (t : Talk) (r : TalkRec) : Option Nat :=
  match r.origin with
  | .panel p k =>
    match t.key p k with
    | .held _ => some 0
    | .momentary => some 1
    | .latched => some 2
    | _ => none
  | .gpi _ => some 1
  | .link => none

/-- A talk record, or free (R161). -/
def State.talkRecBytes (s : State) (i : TalkId) : List Byte :=
  match s.talk.talks.get i with
  | none => flags [false]
  | some r =>
    let k := s.talk.keyStateOf r
    flags [true, k.isSome] ++ u8 r.talker.val ++ targetBytes r.target ++ talkOriginBytes r.origin ++ present? u8 k ++ flag r.priority
      ++ u8 (resolutionCode r.resolution) ++ placementCounts (s.talk.talkPlacements i r)

/-- A listen record, or free (R161). -/
def State.listenRecBytes (s : State) (i : ListenId) : List Byte :=
  match s.talk.listens.get i with
  | none => flags [false]
  | some r =>
    flags [true] ++ u8 r.listener.val ++ targetBytes r.target ++ talkOriginBytes r.origin ++ u8 (resolutionCode r.resolution)
      ++ placementCounts (s.talk.listenPlacements i r)

/-- A placement's code: IN, WAITING, EXCLUDED. -/
def placementCode : Placement → Nat
  | .placed => 0
  | .waiting => 1
  | .excluded => 2

/-- The resolved listener list of a talk with its placements (R161). -/
def State.placementBytes (s : State) (i : TalkId) (r : TalkRec) : List Byte :=
  listOf (fun (p : PortId) => u8 p.val ++ u8 (placementCode ((s.talk.listeners.get p).placement r.talker (.talk i)))) r.listeners

/-- Every circuit, the latch window and the groups' member counts (R161). -/
def State.circuitBytes (s : State) : List Byte :=
  s.talk.circuits.cells.flatMap (fun x => optIndex x.talent ++ u8 x.program.val ++ u8 x.dim.val) ++ u16 s.talk.latchWindow
    ++ s.talk.groups.cells.flatMap fun g => u8 g.length

/-- Whether a range of records is out of range for a table of `n`. -/
def badRange (n first count : Nat) : Bool := decide (n ≤ first ∨ count = 0 ∨ 16 < count ∨ n < first + count)

/-- READ_TALKS (R161): part 0 TALKS, 1 LISTENS, 2 PLACEMENTS, 3 CIRCUITS. -/
def readTalksAnswer (s : State) (part first count : Nat) : Answer :=
  match part with
  | 0 =>
    if badRange 128 first count then refused .range
    else ⟨.done, ((indices 128).filter fun i => decide (first ≤ i.val ∧ i.val < first + count)).flatMap s.talkRecBytes⟩
  | 1 =>
    if badRange 64 first count then refused .range
    else ⟨.done, ((indices 64).filter fun i => decide (first ≤ i.val ∧ i.val < first + count)).flatMap s.listenRecBytes⟩
  | 2 =>
    match indexOf 128 first with
    | none => refused .range
    | some i =>
      match s.talk.talks.get i with
      | none => refused .absent
      | some r => ⟨.done, s.placementBytes i r⟩
  | 3 => ⟨.done, s.circuitBytes⟩
  | _ => refused .range

/-- READ_LISTENER (R162). -/
def readListenerAnswer (s : State) (port : Nat) : Answer :=
  match indexOf 96 port with
  | none => refused .range
  | some p =>
    let l := s.talk.listeners.get p
    ⟨.done,
      listOf (fun e => u8 e.talker.val ++ listOf causeBytes e.causes ++ flags [e.dim, s.talk.protects e]) l.talkers
        ++ listOf (fun w => u8 w.talker.val ++ causeBytes w.cause) l.waits ++ flags [s.talk.call p, s.talk.talking p]
        ++ imageBytes (s.talk.image p)⟩

/-! ## READ_SALVO (R186) -/

/-- The store's state, with the operation in OPERATING. -/
def storeStateBytes : StoreState → List Byte
  | .starting => [0#8]
  | .idle => [1#8]
  | .operating j second tag => 2#8 :: (storeJobBytes j ++ u8 (if second then 2 else 1) ++ u8 tag)

/-- The body of part PAGE; the entry count is the count byte of the list of entries, sent once (log entry 20, DESIGN CHOICE). -/
def pageBytes (p : Page) : List Byte :=
  u8 (pageStateCode p.state) ++ (if p.state = .valid then listOf salvoEntryBytes p.entries else u8 0)

/-- The body of part DIRECTORY. -/
def Store.directoryBytes (x : Store) : List Byte :=
  storeStateBytes x.state ++ x.pages.cells.flatMap (fun p => u8 (pageStateCode p.state) ++ u8 p.entries.length)
    ++ u8 (if x.header.bad then 1 else 0) ++ optIndex x.header.committed

/-- READ_SALVO (R186): part 0 PAGE, 1 DIRECTORY; RANGE before BUSY (log entry 21, DESIGN CHOICE). -/
def readSalvoAnswer (s : State) (part page : Nat) : Answer :=
  match part with
  | 0 =>
    match indexOf 48 page with
    | none => refused .range
    | some n => if s.store.busyFor n then refused .busy else ⟨.done, pageBytes (s.store.pages.get n)⟩
  | 1 => ⟨.done, s.store.directoryBytes⟩
  | _ => refused .range

/-! ## READ_STATUS (R68, R111, R173, R199) -/

/-- The filter as shown: GAP passes whatever it holds (R198). -/
def shownFilter (ks : BitVec 16) : BitVec 16 := addKind ks .gap

/-- A kind set in two bytes (12.3). -/
def kindsBytes (ks : BitVec 16) : List Byte := [ks.extractLsb' 8 8, ks.extractLsb' 0 8]

/-- The LINK part. -/
def Link.statusBytes (l : Link) : List Byte :=
  u8 l.requests.length ++ flag l.slotHeld ++ u8 l.immediate ++ u8 l.notices.length ++ flag l.gapFlag ++ u16 l.dropped
    ++ kindsBytes l.droppedKinds ++ kindsBytes (shownFilter l.filter) ++ u8 l.noticeCount
    ++ u8 (match l.rx with | .hunting => 0 | .collecting .. => 1)
    ++ u16 l.counts.length ++ u16 l.counts.framing ++ u16 l.counts.gap ++ u16 l.counts.check ++ u16 l.counts.kind
    ++ u16 l.counts.skipped ++ u16 l.counts.busy ++ u16 l.counts.unformed

/-- Reference clocks as whole microseconds, rounded down: R22 says so of the FRAME notice; for the periods of R199's WATCHER part, which has no
rounding in the spec, it is the model's choice (log entry 9, DESIGN CHOICE). -/
def inMicroseconds (clocks : Nat) : Nat := clocks / Config.clocksPerMicrosecond

/-- The WATCHER part. -/
def Crosspoint.watcherBytes (x : Crosspoint) : List Byte :=
  u8 (match x.watcher.state with | .locked _ => 0 | .freeRun _ => 1) ++ flags [x.watcher.measured.isSome]
    ++ present? (fun n => u24 (inMicroseconds n)) x.watcher.measured ++ u24 (inMicroseconds x.watcher.freePeriod) ++ flag x.adopted

/-- The values of one mixer port (R68). -/
def MixerPort.statusBytes (m : MixerPort) (now : Nat) : List Byte :=
  u8 (if m.state.isLive then 0 else 1) ++ flags [m.lastValid.isSome]
    ++ present? (fun t => u16 (stopAtTop (inMs (now - t)))) m.lastValid ++ u16 m.discards ++ u16 m.adjusts
    ++ m.table.cells.flatMap stageBytes

/-- The values of one loop (R111). -/
def Loop.statusBytes (x : Loop) : List Byte :=
  u8 (loopStateCode x.state) ++ u8 (rateCode x.rate) ++ u16 x.nominal ++ u8 x.trim ++ u16 x.working ++ u8 x.enrolPosition
    ++ u16 x.counts.noise ++ u16 x.counts.framing ++ u16 x.counts.overrun ++ u16 x.counts.check ++ u16 x.counts.timeout
    ++ u16 x.counts.stray ++ u16 x.counts.searchFailures ++ u16 x.counts.lineFaults

/-- How many members a set holds. -/
def sizeOf' (t : Tbl n Bool) : Nat := (t.cells.filter id).length

/-- The GPIO part (R173). -/
def Gpio.statusBytes (g : Gpio) : List Byte :=
  g.inputs.cells.flatMap (fun i => levelBytes i.raw ++ levelBytes i.level ++ u16 i.time ++ flag i.timer.isSome ++ gpiMapBytes i.mapping)
    ++ g.outputs.cells.flatMap (fun o => gpoMapBytes o.mapping ++ levelBytes o.active)
    ++ u8 (sizeOf' g.faulted) ++ u8 (sizeOf' g.absent) ++ u8 (if g.freeRun then 1 else 0)

/-- The CARDS part (R40, R199). -/
def Fabric.statusBytes (f : Fabric) : List Byte :=
  f.cards.cells.flatMap (fun c => u8 (presenceCode c.presence) ++ u8 c.timeouts.val) ++ u8 f.video.length ++ u8 f.audio.length

/-- READ_STATUS (R199): part 0 LINK, 1 WATCHER, 2 MIXERS, 3 LOOPS, 4 GPIO, 5 CARDS. -/
def readStatusAnswer (s : State) (part : Nat) : Answer :=
  match part with
  | 0 => ⟨.done, s.link.statusBytes⟩
  | 1 => ⟨.done, s.xpt.watcherBytes⟩
  | 2 => ⟨.done, s.mixers.a.statusBytes s.clock ++ s.mixers.b.statusBytes s.clock⟩
  | 3 => ⟨.done, s.loops.cells.flatMap Loop.statusBytes⟩
  | 4 => ⟨.done, s.gpio.statusBytes⟩
  | 5 => ⟨.done, s.fabric.statusBytes⟩
  | _ => refused .range

end Sys2Proof.Machine
end

