-- ==== Sys2Proof/Machine/Service.lean ====
section
/-! DEFINITION. Serving the request queue (section 11.2), RESTART (section 11.7), the arrival of frames, and what ends every step. -/

namespace Sys2Proof.Machine

/-! ## SET_FILTER (R198) -/

/-- SET_FILTER (R198). -/
def serveSetFilter (kinds : BitVec 16) (s : State) : State × Answer :=
  if kinds >>> 13 ≠ 0 then (s, refused .range)
  else
    let t := s.onLink fun l => { l with filter := kinds }
    (t, ⟨.done, kindsBytes (shownFilter kinds)⟩)

/-! ## The owners (section 11.3) -/

/-- A request handed to its owner, RESTART apart: the state it leaves and what it answers (R191). -/
def serveRequest (tag : Nat) (r : Request) (s : State) : State × Answer :=
  match r with
  | .setClass b c => serveSetClass tag b c s
  | .setCamera x p => serveSetCamera x p s
  | .setInput p i k x => serveSetInput p i k x s
  | .setDest d p r a => serveSetDest d p r a s
  | .setThreshold p a v => serveSetThreshold p a v s
  | .setLoop l e r t => serveSetLoop l e r t s
  | .setKeymap l a p o ks => serveSetKeymap l a p o ks s
  | .setSlots l a w x y z => serveSetSlots l a w x y z s
  | .setGroup g ms => serveSetGroup g ms s
  | .setIfb c t p d => serveSetIfb c t p d s
  | .setLatch w => serveSetLatch w s
  | .setGpi i m d => serveSetGpi i m d s
  | .setGpo o m => serveSetGpo o m s
  | .setFilter ks => serveSetFilter ks s
  | .take d f x => serveTake d f x s
  | .lock d => serveLock d s
  | .unlock d x => serveUnlock d x s
  | .talk p a n t => serveTalk p a n t s
  | .salvoWrite p es => serveSalvoWrite tag p es s
  | .salvoErase p => serveSalvoErase tag p s
  | .salvoRecall p => serveSalvoRecall p s
  | .salvoBoot p => serveSalvoBoot tag p s
  | .loopRestart l => serveLoopRestart l s
  | .restart => (s, ⟨.done, []⟩)
  | .readTally v f c => (s, readTallyAnswer s v f c)
  | .readDest d => (s, readDestAnswer s d)
  | .readRoster l p a => (s, readRosterAnswer s l p a)
  | .readTalks p f c => (s, readTalksAnswer s p f c)
  | .readListener p => (s, readListenerAnswer s p)
  | .readSalvo p n => (s, readSalvoAnswer s p n)
  | .readStatus p => (s, readStatusAnswer s p)

/-! ## RESTART (R200) -/

/-- The data of a RESTART's reply: the requests behind it with tag and kind, and the number of notices queued (R200). -/
def restartData (behind : List Queued) (notices : Nat) : List Byte :=
  listOf (fun q => u8 q.tag ++ u8 q.request.kind) behind ++ u8 notices

/-- The link's part of a RESTART: the reply formed, the queues emptied, the later parts of a notice discarded (R200, R204). -/
def Link.restart (l : Link) (tag : Nat) (behind : List Queued) : Link :=
  ({ l with
      requests := []
      replies := l.replies ++ [⟨true, ⟨tag, .done, Request.restart.kind, restartData behind l.notices.length⟩⟩]
      notices := []
      continuation := none
      gapFlag := false
      dropped := 0
      droppedKinds := 0 } : Link).choose

/-- Every block's RESTART effects (R38, R53, R73, R109, R120, R163, R169; log entry 19: the order). -/
def State.restartBlocks (s : State) : State :=
  ((((s.restartCrosspoint).restartTalk.rehandInputs).restartLoops).triggers fun _ => true).restartFabric

/-! ## Service (R191) -/

/-- The reply of a served request fills the reply slot, and the request leaves the queue (R191). -/
def Link.answered (l : Link) (q : Queued) (a : Answer) : Link :=
  ({ l with
      requests := l.requests.drop 1
      serving := false
      replies := l.replies ++ [⟨true, ⟨q.tag, a.result, q.request.kind, a.data⟩⟩] } : Link).choose

/-- The request at the head of the queue is served where the reply slot is empty (R191, R200). -/
def State.serveHead (s : State) : State :=
  match s.link.requests with
  | [] => s
  | q :: behind =>
    if s.link.slotHeld then s
    else
      match q.request with
      | .restart => (s.onLink (·.restart q.tag behind)).restartBlocks
      | r =>
        let x := serveRequest q.tag r (s.onLink fun l => { l with serving := true })
        x.1.onLink (·.answered q x.2)

/-- The queue served as far as the reply slot allows; `fuel` bounds the requests served. -/
def State.pumpFor : Nat → State → State
  | 0, s => s
  | n + 1, s => State.pumpFor n s.serveHead

/-- The queue served as far as the reply slot allows (R191). -/
def State.pump (s : State) : State := State.pumpFor s.link.requests.length s

/-! ## The end of a step -/

/-- What ends every step: the fabric transmitter chooses where it is idle (R42), and the lamps are composed (R127; log entry 7). -/
def State.settle (s : State) : State := (s.onFabric Fabric.choose).compose

/-- A command that has had its effect. -/
def ended (s : State) : Host.Outcome State Fault Refusal := .next s.settle

/-! ## Arrivals (R189, R190, R202) -/

/-- A request arrives in a complete good frame: it joins the queue or is refused BUSY, and the queue is served (R190, R191). -/
def State.arrive (s : State) (tag : Nat) (r : Request) : State := (s.onLink (·.offerRequest tag r)).pump

/-- Whether a kind byte names a request (12.1). -/
def isRequestKind (k : Byte) : Bool := decide (1 ≤ k.toNat ∧ k.toNat ≤ 0x1F)

/-- A complete control link frame with a good check (R189, R202). -/
def State.linkFrame (s : State) (kind tag : Byte) (body : List Byte) : State :=
  if isRequestKind kind then
    match decodeRequest kind.toNat body with
    | some r => s.arrive tag.toNat r
    | none => s.onLink (·.frameReply tag.toNat kind.toNat .body)
  else s.onLink (·.frameReply tag.toNat kind.toNat .kind)

/-- A byte ends on CL_RX (R187, R188). -/
def State.linkByte (s : State) (b : RxByte) : State :=
  let r := s.link.rx.take s.clock b
  let t := s.onLink fun l => { l with rx := r.1 }
  match r.2 with
  | .quiet => t
  | .skipped => t.onLink fun l => { l with counts := { l.counts with skipped := bump l.counts.skipped } }
  | .discarded cause => t.onLink (·.frameReply 0 0 cause)
  | .complete kind tag body => t.linkFrame kind tag body

/-- A whole frame comes to a receiver that hunts, or that holds a first part of it (log entry 3). -/
def State.linkWhole (s : State) (kind tag : Byte) (body : List Byte) : State :=
  if s.link.rx.awaits kind tag body then (s.onLink fun l => { l with rx := .hunting }).linkFrame kind tag body else s

/-- The transmitter finishes its frame and chooses the next, and a request that waited for the reply slot is served (R191, R197). -/
def State.linkSent (s : State) : State :=
  if s.link.sending.isSome then (s.onLink fun l => ({ l with sending := none } : Link).choose).pump else s

end Sys2Proof.Machine
end

