-- ==== Sys2Proof/Machine/ExecFabric.lean ====
section
/-! DEFINITION. The rows of the fabric line (chapter 3). -/

namespace Sys2Proof.Machine

/-- FABRIC_RECORD_SENT (R39, R42). -/
def execFabricRecordSent (s : State) : Host.Outcome State Fault Refusal := ended s.recordSent

/-- XECHO (R43, R44, R52). -/
def execXecho (dest actual sequence : Nat) (s : State) : Host.Outcome State Fault Refusal :=
  ended (s.wholeRecord (.xecho dest actual sequence))

/-- AACK (R45). -/
def execAack (port : Nat) (s : State) : Host.Outcome State Fault Refusal := ended (s.wholeRecord (.aack port))

/-- PRESENT (R48 to R52). -/
def execPresent (card kind : Nat) (s : State) : Host.Outcome State Fault Refusal := ended (s.wholeRecord (.present card kind))

/-- FABRIC_STRAY_RECORD (R39, R205): bytes come to the receiver, after an idle gap or straight after the bytes before them; they are
discarded unless they complete an answer that fits (log entry 3). -/
def execFabricStrayRecord (bytes : LineBytes) (s : State) : Host.Outcome State Fault Refusal :=
  let x := s.fabric.rx.take bytes
  match x.2 with
  | none => .next (s.setFabricRx x.1)
  | some r => ended ((s.setFabricRx x.1).takeRecord r)

/-- FABRIC_REPLY_TIMEOUT (R39). -/
def execFabricReplyTimeout (card : CardId) (s : State) : Host.Outcome State Fault Refusal :=
  match s.fabric.exchanges.get card with
  | none => .next s
  | some x => ended (((s.reach x.expiry).exchangeTimedOut card x).checkAdoption)

/-- PROBE_TIMER_EXPIRY (R48): a PROBE to the card is due. -/
def execProbeTimerExpiry (card : CardId) (s : State) : Host.Outcome State Fault Refusal :=
  match (s.card card).probe with
  | none => .next s
  | some t =>
    ended (((s.reach t).setCard card { s.card card with probe := none }).onFabric fun f =>
      { f with probesDue := f.probesDue.set card true })

end Sys2Proof.Machine
end

