-- ==== Sys2Proof/Machine/ExecFrames.lean ====
section
/-! DEFINITION. The rows of the frame watcher and of the destination locks (chapter 2). -/

namespace Sys2Proof.Machine

/-- FRAME_PULSE (R22, R23). -/
def execFramePulse (s : State) : Host.Outcome State Fault Refusal := ended s.pulse

/-- FRAME_LOSS_TIMEOUT (R22). -/
def execFrameLossTimeout (s : State) : Host.Outcome State Fault Refusal :=
  match s.xpt.watcher.state with
  | .freeRun _ => .next s
  | .locked t => ended (s.reach t).frameLost

/-- FREE_RUN_PERIOD_EXPIRY (R22). -/
def execFreeRunPeriodExpiry (s : State) : Host.Outcome State Fault Refusal :=
  match s.xpt.watcher.state with
  | .locked _ => .next s
  | .freeRun t => ended (s.reach t).freeRunTick

/-- LOCK_DEADLINE_EXPIRY (R35): the owner's locks whose deadline expires first. -/
def execLockDeadlineExpiry (panel : PanelId) (s : State) : Host.Outcome State Fault Refusal :=
  match s.firstDeadline (.panel panel) with
  | none => .next s
  | some t => ended ((s.reach t).locksExpire (.panel panel) t)

end Sys2Proof.Machine
end

