-- ==== Sys2Proof/Machine/ExecLink.lean ====
section
/-! DEFINITION. HARD_RESET and the rows of the control link (chapter 11). -/

namespace Sys2Proof.Machine

/-- HARD_RESET (R51 and every reset rule): every block at its reset values, over the pages, the boot header and the contacts (log entry 4). -/
def execHardReset (s : State) : Host.Outcome State Fault Refusal :=
  .next { State.atReset s.clock s.store.pages s.store.header (s.gpio.inputs.map fun i => i.raw) with pending := s.pending }

/-- CL_FRAME_RECEIVED (R189, R202): a complete frame with a good check. -/
def execClFrameReceived (kind tag : Byte) (body : List Byte) (s : State) : Host.Outcome State Fault Refusal :=
  ended (s.linkWhole kind tag body)

/-- CL_FRAME_DISCARDED (R188): the byte at which a frame in progress is discarded. -/
def execClFrameDiscarded (byte : RxByte) (s : State) : Host.Outcome State Fault Refusal := ended (s.linkByte byte)

/-- CL_BYTE_RECEIVED (R187). -/
def execClByteReceived (byte : RxByte) (s : State) : Host.Outcome State Fault Refusal := ended (s.linkByte byte)

/-- CL_GAP_TIMEOUT (R188). -/
def execClGapTimeout (s : State) : Host.Outcome State Fault Refusal :=
  match s.link.rx.gap with
  | none => .next s
  | some t => ended ((s.reach t).onLink fun l => ({ l with rx := .hunting } : Link).frameReply 0 0 .gap)

/-- CL_TRANSMIT_COMPLETE (R197). -/
def execClTransmitComplete (s : State) : Host.Outcome State Fault Refusal := ended s.linkSent

end Sys2Proof.Machine
end

