-- ==== Sys2Proof/Machine/ExecLoops.lean ====
section
/-! DEFINITION. The rows of the panel loops (chapter 6). -/

namespace Sys2Proof.Machine

/-- POLL (R101): begun where it is the controller's next message. -/
def execPoll (loop : LoopId) (s : State) : Host.Outcome State Fault Refusal :=
  ended (s.beginIf loop fun n => match n with | .poll _ => true | _ => false)

/-- ENROL (R99, R100): begun where it is the controller's next message. -/
def execEnrol (loop : LoopId) (s : State) : Host.Outcome State Fault Refusal :=
  ended (s.beginIf loop fun n => match n with | .enrolLost _ => true | .enrolFree _ => true | _ => false)

/-- STATE_QUERY (R99): begun where it is the controller's next message. -/
def execStateQuery (loop : LoopId) (s : State) : Host.Outcome State Fault Refusal :=
  ended (s.beginIf loop fun n => match n with | .query _ => true | _ => false)

/-- LOOP_MESSAGE_SENT (R96). -/
def execLoopMessageSent (loop : LoopId) (s : State) : Host.Outcome State Fault Refusal :=
  ended (s.setLoop loop ((s.loop loop).messageSent s.clock))

/-- LOOP_REPLY_START_BIT (R96). -/
def execLoopReplyStartBit (loop : LoopId) (s : State) : Host.Outcome State Fault Refusal :=
  ended (s.setLoop loop (s.loop loop).replyBegins)

/-- LOOP_REPLY_WINDOW_TIMEOUT (R96). -/
def execLoopReplyWindowTimeout (loop : LoopId) (s : State) : Host.Outcome State Fault Refusal :=
  match (s.loop loop).exchange with
  | some ⟨a, m, .window t⟩ => ended ((s.reach t).exchangeMissed loop ⟨a, m, .window t⟩ .timeout)
  | _ => .next s

/-- LOOP_REPLY_GAP_TIMEOUT (R94). -/
def execLoopReplyGapTimeout (loop : LoopId) (s : State) : Host.Outcome State Fault Refusal :=
  match (s.loop loop).exchange with
  | some ⟨a, m, .reply (some t)⟩ =>
    let e : LoopExchange := ⟨a, m, .reply (some t)⟩
    ended ((s.reach t).exchangeMissed loop e ((replyFault (s.loop loop) e (s.loop loop).buffer true).getD .timeout))
  | _ => .next s

/-- LOOP_REPLY_DISCARDED (R95): the character at which a reply is complete and not valid. -/
def execLoopReplyDiscarded (loop : LoopId) (char : LineChar) (s : State) : Host.Outcome State Fault Refusal :=
  ended (s.takeChar loop char)

/-- LOOP_STRAY_CHARACTER (R95). -/
def execLoopStrayCharacter (loop : LoopId) (char : LineChar) (s : State) : Host.Outcome State Fault Refusal :=
  ended (s.takeChar loop char)

/-- LOOP_REPLY_CHARACTER (R94). -/
def execLoopReplyCharacter (loop : LoopId) (char : LineChar) (s : State) : Host.Outcome State Fault Refusal :=
  ended (s.takeChar loop char)

/-- IDENT (R114): the whole reply of the panel that the exchange addresses. -/
def execIdent (loop : LoopId) (kind keyCount slotCount revision : Nat) (s : State) : Host.Outcome State Fault Refusal :=
  ended (s.takeReply loop (loopData identKind [byteOf kind, byteOf keyCount, byteOf slotCount, byteOf revision]))

/-- KEYS (R121). -/
def execKeys (loop : LoopId) (more : Bool) (events : List KeyEvent) (s : State) : Host.Outcome State Fault Refusal :=
  ended (s.takeReply loop (loopData keysKind (keysCountByte more events.length :: events.map KeyEvent.byte)))

/-- STATE (R122). -/
def execStateReply (loop : LoopId) (down : BitVec 48) (s : State) : Host.Outcome State Fault Refusal :=
  ended (s.takeReply loop (loopData stateKind (stateBytes down)))

/-- HOLD (R102). -/
def execHold (loop : LoopId) (s : State) : Host.Outcome State Fault Refusal := ended (s.takeReply loop (loopData holdKind []))

/-- QUIET (R102). -/
def execQuiet (loop : LoopId) (s : State) : Host.Outcome State Fault Refusal := ended (s.takeReply loop (loopData quietKind []))

/-- LONG_BREAK (R93, R107). -/
def execLongBreak (loop : LoopId) (s : State) : Host.Outcome State Fault Refusal := ended (s.longBreak loop)

/-- LINE_FAULT_RESTART_EXPIRY (R107): a restart attempt begins. -/
def execLineFaultRestartExpiry (loop : LoopId) (s : State) : Host.Outcome State Fault Refusal :=
  match (s.loop loop).state with
  | .lineFault t => ended ((s.reach t).setLoop loop { s.loop loop with state := .starting true none })
  | _ => .next s

/-- LOOP_BREAK_SENT (R104, R106). -/
def execLoopBreakSent (loop : LoopId) (s : State) : Host.Outcome State Fault Refusal :=
  ended (s.setLoop loop ((s.loop loop).breakSent s.clock))

/-- STARTING_WAIT_EXPIRY (R104, R106): the line level at the end of the 100 ms wait. -/
def execStartingWaitExpiry (loop : LoopId) (lineHigh : Bool) (s : State) : Host.Outcome State Fault Refusal :=
  match (s.loop loop).state with
  | .starting _ (some t) => ended ((s.reach t).waitEnds loop lineHigh)
  | .rateSearch _ (.waiting t) => ended ((s.reach t).waitEnds loop lineHigh)
  | _ => .next s

/-- RATE_MARK_MEASURED (R105): a start bit lasts at least one reference clock. -/
def execRateMarkMeasured (loop : LoopId) (clocks : Nat) (s : State) : Host.Outcome State Fault Refusal :=
  if clocks = 0 then .next s else ended (s.measured loop clocks)

/-- RATE_SEARCH_TIMEOUT (R105, R106). -/
def execRateSearchTimeout (loop : LoopId) (s : State) : Host.Outcome State Fault Refusal :=
  match (s.loop loop).state with
  | .rateSearch failed (.listening t) => ended ((s.reach t).searchFails loop failed .searchNoMark)
  | _ => .next s

/-- SEARCH_RETRY_EXPIRY (R106). -/
def execSearchRetryExpiry (loop : LoopId) (s : State) : Host.Outcome State Fault Refusal :=
  match (s.loop loop).state with
  | .rateSearch failed (.pausing t) => ended ((s.reach t).setLoop loop { s.loop loop with state := .rateSearch failed .breaking })
  | _ => .next s

/-- SEARCH_IDLE_GUARD_MET (R105). -/
def execSearchIdleGuardMet (loop : LoopId) (s : State) : Host.Outcome State Fault Refusal :=
  match (s.loop loop).state with
  | .rateSearch _ .guard => ended (s.enterRunning loop)
  | _ => .next s

end Sys2Proof.Machine
end

