-- ==== Sys2Proof/Machine/ExecMixer.lean ====
section
/-! DEFINITION. The rows of the mixer ports and of the computation engines (chapters 4 and 5). -/

namespace Sys2Proof.Machine

/-- MIXER_STAGE_RECORD (R61): the frame of a STAGE record. -/
def execMixerStageRecord (port : Prod2) (tag : Byte) (record : RawStage) (s : State) : Host.Outcome State Fault Refusal :=
  ended (s.mixerWhole port stageKind tag record.bytes)

/-- MIXER_KEEP_RECORD (R62). -/
def execMixerKeepRecord (port : Prod2) (tag : Byte) (s : State) : Host.Outcome State Fault Refusal :=
  ended (s.mixerWhole port keepKind tag [])

/-- MIXER_FRAME_DISCARDED (R56, R57): the byte at which a frame in progress is discarded. -/
def execMixerFrameDiscarded (port : Prod2) (byte : RxByte) (s : State) : Host.Outcome State Fault Refusal :=
  ended (s.mixerByte port byte)

/-- MIXER_BYTE_RECEIVED (R55). -/
def execMixerByteReceived (port : Prod2) (byte : RxByte) (s : State) : Host.Outcome State Fault Refusal :=
  ended (s.mixerByte port byte)

/-- MIXER_GAP_TIMEOUT (R56). -/
def execMixerGapTimeout (port : Prod2) (s : State) : Host.Outcome State Fault Refusal :=
  match (s.mixers.get port).rx.gap with
  | none => .next s
  | some t => ended (((s.reach t).setMixerRx port .hunting).mixerDiscard port)

/-- MIXER_STALE_TIMEOUT (R63). -/
def execMixerStaleTimeout (port : Prod2) (s : State) : Host.Outcome State Fault Refusal :=
  match (s.mixers.get port).state with
  | .stale _ => .next s
  | .live t => ended ((s.reach t).mixerStale port)

/-- COMPUTATION_COMPLETE (R71). -/
def execComputationComplete (production : Prod2) (s : State) : Host.Outcome State Fault Refusal :=
  match (s.engines.get production).running with
  | none => .next s
  | some x => ended (s.publish production x)

end Sys2Proof.Machine
end

