-- ==== Sys2Proof/Machine/ExecPanels.lean ====
section
/-! DEFINITION. The timer rows of the roster and the talk keys, and the rows of the GPIO unit and the salvo store (chapters 7 to 10). -/

namespace Sys2Proof.Machine

/-- ROSTER_HOLD_EXPIRY (R119). -/
def execRosterHoldExpiry (panel : PanelId) (s : State) : Host.Outcome State Fault Refusal :=
  match (s.entry panel).state, (s.entry panel).lostAt with
  | .lost, some t => ended ((s.reach (t + Config.rosterHold)).holdExpires panel)
  | _, _ => .next s

/-- LATCH_TIMER_EXPIRY (R147). -/
def execLatchTimerExpiry (panel : PanelId) (key : KeyId) (s : State) : Host.Outcome State Fault Refusal :=
  match s.talk.key panel key with
  | .held t => ended ((s.reach t).latchExpires panel key)
  | _ => .next s

/-- GPI_RAW_CHANGE (R165). -/
def execGpiRawChange (input : GpiId) (s : State) : Host.Outcome State Fault Refusal := ended (s.rawChange input)

/-- GPI_DEBOUNCE_EXPIRY (R165). -/
def execGpiDebounceExpiry (input : GpiId) (s : State) : Host.Outcome State Fault Refusal :=
  match (s.gpi input).timer with
  | none => .next s
  | some t => ended ((s.reach t).debounceExpires input)

/-- PROGRAMMING_COMPLETE (R177): whether the read-back agrees. -/
def execProgrammingComplete (agrees : Bool) (s : State) : Host.Outcome State Fault Refusal := ended (s.programmed agrees)

/-- START_SCAN_COMPLETE (R176). -/
def execStartScanComplete (s : State) : Host.Outcome State Fault Refusal :=
  if s.store.isStarting then ended s.scanEnds else .next s

end Sys2Proof.Machine
end

