-- ==== Sys2Proof/Machine/ExecRequests.lean ====
section
/-! DEFINITION. The request rows: one definition per row. Each stands for the arrival of that request (log entry 2); what its owner does is in the
serve function of its name. -/

namespace Sys2Proof.Machine

/-- SET_CLASS (R1 to R5): the request arrives and is served in its turn. -/
def execSetClass (tag block code : Nat) (s : State) : Host.Outcome State Fault Refusal :=
  ended (s.arrive tag (.setClass block code))

/-- SET_CAMERA (R8): the request arrives and is served in its turn. -/
def execSetCamera (tag source port : Nat) (s : State) : Host.Outcome State Fault Refusal :=
  ended (s.arrive tag (.setCamera source port))

/-- SET_INPUT (R10): the request arrives and is served in its turn. -/
def execSetInput (tag production input kind index : Nat) (s : State) : Host.Outcome State Fault Refusal :=
  ended (s.arrive tag (.setInput production input kind index))

/-- SET_DEST (R12): the request arrives and is served in its turn. -/
def execSetDest (tag dest : Nat) (production record arm : Option Nat) (s : State) : Host.Outcome State Fault Refusal :=
  ended (s.arrive tag (.setDest dest production record arm))

/-- SET_THRESHOLD (R14): the request arrives and is served in its turn. -/
def execSetThreshold (tag production : Nat) (air preview : Option Nat) (s : State) : Host.Outcome State Fault Refusal :=
  ended (s.arrive tag (.setThreshold production air preview))

/-- SET_LOOP (R108): the request arrives and is served in its turn. -/
def execSetLoop (tag loop : Nat) (enable rate trim : Option Nat) (s : State) : Host.Outcome State Fault Refusal :=
  ended (s.arrive tag (.setLoop loop enable rate trim))

/-- SET_KEYMAP (R125): the request arrives and is served in its turn. -/
def execSetKeymap (tag loop address : Nat) (production port : Option Nat) (keys : List RawKey) (s : State) : Host.Outcome State Fault Refusal :=
  ended (s.arrive tag (.setKeymap loop address production port keys))

/-- SET_SLOTS (R126): the request arrives and is served in its turn. -/
def execSetSlots (tag loop address : Nat) (slot0 slot1 slot2 slot3 : Option Nat) (s : State) : Host.Outcome State Fault Refusal :=
  ended (s.arrive tag (.setSlots loop address slot0 slot1 slot2 slot3))

/-- SET_GROUP (R137): the request arrives and is served in its turn. -/
def execSetGroup (tag group : Nat) (members : List Nat) (s : State) : Host.Outcome State Fault Refusal :=
  ended (s.arrive tag (.setGroup group members))

/-- SET_IFB (R155): the request arrives and is served in its turn. -/
def execSetIfb (tag circuit talent program dim : Nat) (s : State) : Host.Outcome State Fault Refusal :=
  ended (s.arrive tag (.setIfb circuit talent program dim))

/-- SET_LATCH (R149): the request arrives and is served in its turn. -/
def execSetLatch (tag window : Nat) (s : State) : Host.Outcome State Fault Refusal :=
  ended (s.arrive tag (.setLatch window))

/-- SET_GPI (R168): the request arrives and is served in its turn. -/
def execSetGpi (tag input : Nat) (mapping : Option RawGpiMap) (debounce : Option Nat) (s : State) : Host.Outcome State Fault Refusal :=
  ended (s.arrive tag (.setGpi input mapping debounce))

/-- SET_GPO (R172): the request arrives and is served in its turn. -/
def execSetGpo (tag output : Nat) (mapping : RawGpoMap) (s : State) : Host.Outcome State Fault Refusal :=
  ended (s.arrive tag (.setGpo output mapping))

/-- SET_FILTER (R198): the request arrives and is served in its turn. -/
def execSetFilter (tag : Nat) (kinds : BitVec 16) (s : State) : Host.Outcome State Fault Refusal :=
  ended (s.arrive tag (.setFilter kinds))

/-- TAKE (R19): the request arrives and is served in its turn. -/
def execTake (tag dest source : Nat) (forced : Bool) (s : State) : Host.Outcome State Fault Refusal :=
  ended (s.arrive tag (.take dest source forced))

/-- LOCK (R33): the request arrives and is served in its turn. -/
def execLock (tag dest : Nat) (s : State) : Host.Outcome State Fault Refusal :=
  ended (s.arrive tag (.lock dest))

/-- UNLOCK (R33): the request arrives and is served in its turn. -/
def execUnlock (tag dest : Nat) (forced : Bool) (s : State) : Host.Outcome State Fault Refusal :=
  ended (s.arrive tag (.unlock dest forced))

/-- TALK (R153): the request arrives and is served in its turn. -/
def execTalk (tag path action port : Nat) (target : RawTarget) (s : State) : Host.Outcome State Fault Refusal :=
  ended (s.arrive tag (.talk path action port target))

/-- SALVO_WRITE (R178): the request arrives and is served in its turn. -/
def execSalvoWrite (tag page : Nat) (entries : List RawEntry) (s : State) : Host.Outcome State Fault Refusal :=
  ended (s.arrive tag (.salvoWrite page entries))

/-- SALVO_ERASE (R179): the request arrives and is served in its turn. -/
def execSalvoErase (tag page : Nat) (s : State) : Host.Outcome State Fault Refusal :=
  ended (s.arrive tag (.salvoErase page))

/-- SALVO_RECALL (R182): the request arrives and is served in its turn. -/
def execSalvoRecall (tag page : Nat) (s : State) : Host.Outcome State Fault Refusal :=
  ended (s.arrive tag (.salvoRecall page))

/-- SALVO_BOOT (R180): the request arrives and is served in its turn. -/
def execSalvoBoot (tag page : Nat) (s : State) : Host.Outcome State Fault Refusal :=
  ended (s.arrive tag (.salvoBoot page))

/-- LOOP_RESTART (R109): the request arrives and is served in its turn. -/
def execLoopRestart (tag loop : Nat) (s : State) : Host.Outcome State Fault Refusal :=
  ended (s.arrive tag (.loopRestart loop))

/-- RESTART (R200): the request arrives and is served in its turn. -/
def execRestart (tag : Nat) (s : State) : Host.Outcome State Fault Refusal :=
  ended (s.arrive tag .restart)

/-- READ_TALLY (R89): the request arrives and is served in its turn. -/
def execReadTally (tag view first count : Nat) (s : State) : Host.Outcome State Fault Refusal :=
  ended (s.arrive tag (.readTally view first count))

/-- READ_DEST (R37): the request arrives and is served in its turn. -/
def execReadDest (tag dest : Nat) (s : State) : Host.Outcome State Fault Refusal :=
  ended (s.arrive tag (.readDest dest))

/-- READ_ROSTER (R133): the request arrives and is served in its turn. -/
def execReadRoster (tag loop part address : Nat) (s : State) : Host.Outcome State Fault Refusal :=
  ended (s.arrive tag (.readRoster loop part address))

/-- READ_TALKS (R161): the request arrives and is served in its turn. -/
def execReadTalks (tag part first count : Nat) (s : State) : Host.Outcome State Fault Refusal :=
  ended (s.arrive tag (.readTalks part first count))

/-- READ_LISTENER (R162): the request arrives and is served in its turn. -/
def execReadListener (tag port : Nat) (s : State) : Host.Outcome State Fault Refusal :=
  ended (s.arrive tag (.readListener port))

/-- READ_SALVO (R186): the request arrives and is served in its turn. -/
def execReadSalvo (tag part page : Nat) (s : State) : Host.Outcome State Fault Refusal :=
  ended (s.arrive tag (.readSalvo part page))

/-- READ_STATUS (R199): the request arrives and is served in its turn. -/
def execReadStatus (tag part : Nat) (s : State) : Host.Outcome State Fault Refusal :=
  ended (s.arrive tag (.readStatus part))

end Sys2Proof.Machine
end

