-- ==== Sys2Proof/Machine/Dispatch.lean ====
section
/-! DEFINITION. The effect of each command on everything but the queue of waiting commands. -/

namespace Sys2Proof.Machine

def exec (i : Instr) (s : State) : Host.Outcome State Fault Refusal :=
  match i with
  | .hardReset => Sys2Proof.Machine.execHardReset s
  | .clFrameReceived kind tag body => Sys2Proof.Machine.execClFrameReceived kind tag body s
  | .clFrameDiscarded byte => Sys2Proof.Machine.execClFrameDiscarded byte s
  | .clGapTimeout => Sys2Proof.Machine.execClGapTimeout s
  | .clTransmitComplete => Sys2Proof.Machine.execClTransmitComplete s
  | .setClass tag block code => Sys2Proof.Machine.execSetClass tag block code s
  | .setCamera tag source port => Sys2Proof.Machine.execSetCamera tag source port s
  | .setInput tag production input kind index => Sys2Proof.Machine.execSetInput tag production input kind index s
  | .setDest tag dest production record arm => Sys2Proof.Machine.execSetDest tag dest production record arm s
  | .setThreshold tag production air preview => Sys2Proof.Machine.execSetThreshold tag production air preview s
  | .setLoop tag loop enable rate trim => Sys2Proof.Machine.execSetLoop tag loop enable rate trim s
  | .setKeymap tag loop address production port keys => Sys2Proof.Machine.execSetKeymap tag loop address production port keys s
  | .setSlots tag loop address slot0 slot1 slot2 slot3 => Sys2Proof.Machine.execSetSlots tag loop address slot0 slot1 slot2 slot3 s
  | .setGroup tag group members => Sys2Proof.Machine.execSetGroup tag group members s
  | .setIfb tag circuit talent program dim => Sys2Proof.Machine.execSetIfb tag circuit talent program dim s
  | .setLatch tag window => Sys2Proof.Machine.execSetLatch tag window s
  | .setGpi tag input mapping debounce => Sys2Proof.Machine.execSetGpi tag input mapping debounce s
  | .setGpo tag output mapping => Sys2Proof.Machine.execSetGpo tag output mapping s
  | .setFilter tag kinds => Sys2Proof.Machine.execSetFilter tag kinds s
  | .take tag dest source forced => Sys2Proof.Machine.execTake tag dest source forced s
  | .lock tag dest => Sys2Proof.Machine.execLock tag dest s
  | .unlock tag dest forced => Sys2Proof.Machine.execUnlock tag dest forced s
  | .talk tag path action port target => Sys2Proof.Machine.execTalk tag path action port target s
  | .salvoWrite tag page entries => Sys2Proof.Machine.execSalvoWrite tag page entries s
  | .salvoErase tag page => Sys2Proof.Machine.execSalvoErase tag page s
  | .salvoRecall tag page => Sys2Proof.Machine.execSalvoRecall tag page s
  | .salvoBoot tag page => Sys2Proof.Machine.execSalvoBoot tag page s
  | .loopRestart tag loop => Sys2Proof.Machine.execLoopRestart tag loop s
  | .restart tag => Sys2Proof.Machine.execRestart tag s
  | .readTally tag view first count => Sys2Proof.Machine.execReadTally tag view first count s
  | .readDest tag dest => Sys2Proof.Machine.execReadDest tag dest s
  | .readRoster tag loop part address => Sys2Proof.Machine.execReadRoster tag loop part address s
  | .readTalks tag part first count => Sys2Proof.Machine.execReadTalks tag part first count s
  | .readListener tag port => Sys2Proof.Machine.execReadListener tag port s
  | .readSalvo tag part page => Sys2Proof.Machine.execReadSalvo tag part page s
  | .readStatus tag part => Sys2Proof.Machine.execReadStatus tag part s
  | .mixerStageRecord port tag record => Sys2Proof.Machine.execMixerStageRecord port tag record s
  | .mixerKeepRecord port tag => Sys2Proof.Machine.execMixerKeepRecord port tag s
  | .mixerFrameDiscarded port byte => Sys2Proof.Machine.execMixerFrameDiscarded port byte s
  | .mixerGapTimeout port => Sys2Proof.Machine.execMixerGapTimeout port s
  | .mixerStaleTimeout port => Sys2Proof.Machine.execMixerStaleTimeout port s
  | .computationComplete production => Sys2Proof.Machine.execComputationComplete production s
  | .framePulse => Sys2Proof.Machine.execFramePulse s
  | .frameLossTimeout => Sys2Proof.Machine.execFrameLossTimeout s
  | .freeRunPeriodExpiry => Sys2Proof.Machine.execFreeRunPeriodExpiry s
  | .fabricRecordSent => Sys2Proof.Machine.execFabricRecordSent s
  | .xecho dest actual sequence => Sys2Proof.Machine.execXecho dest actual sequence s
  | .aack port => Sys2Proof.Machine.execAack port s
  | .present card kind => Sys2Proof.Machine.execPresent card kind s
  | .fabricStrayRecord bytes => Sys2Proof.Machine.execFabricStrayRecord bytes s
  | .fabricReplyTimeout card => Sys2Proof.Machine.execFabricReplyTimeout card s
  | .probeTimerExpiry card => Sys2Proof.Machine.execProbeTimerExpiry card s
  | .poll loop => Sys2Proof.Machine.execPoll loop s
  | .enrol loop => Sys2Proof.Machine.execEnrol loop s
  | .stateQuery loop => Sys2Proof.Machine.execStateQuery loop s
  | .loopMessageSent loop => Sys2Proof.Machine.execLoopMessageSent loop s
  | .loopReplyStartBit loop => Sys2Proof.Machine.execLoopReplyStartBit loop s
  | .loopReplyWindowTimeout loop => Sys2Proof.Machine.execLoopReplyWindowTimeout loop s
  | .loopReplyGapTimeout loop => Sys2Proof.Machine.execLoopReplyGapTimeout loop s
  | .loopReplyDiscarded loop char => Sys2Proof.Machine.execLoopReplyDiscarded loop char s
  | .loopStrayCharacter loop char => Sys2Proof.Machine.execLoopStrayCharacter loop char s
  | .ident loop kind keyCount slotCount revision => Sys2Proof.Machine.execIdent loop kind keyCount slotCount revision s
  | .keys loop more events => Sys2Proof.Machine.execKeys loop more events s
  | .stateReply loop down => Sys2Proof.Machine.execStateReply loop down s
  | .hold loop => Sys2Proof.Machine.execHold loop s
  | .quiet loop => Sys2Proof.Machine.execQuiet loop s
  | .rosterHoldExpiry panel => Sys2Proof.Machine.execRosterHoldExpiry panel s
  | .lockDeadlineExpiry panel => Sys2Proof.Machine.execLockDeadlineExpiry panel s
  | .latchTimerExpiry panel key => Sys2Proof.Machine.execLatchTimerExpiry panel key s
  | .longBreak loop => Sys2Proof.Machine.execLongBreak loop s
  | .lineFaultRestartExpiry loop => Sys2Proof.Machine.execLineFaultRestartExpiry loop s
  | .loopBreakSent loop => Sys2Proof.Machine.execLoopBreakSent loop s
  | .startingWaitExpiry loop lineHigh => Sys2Proof.Machine.execStartingWaitExpiry loop lineHigh s
  | .rateMarkMeasured loop clocks => Sys2Proof.Machine.execRateMarkMeasured loop clocks s
  | .rateSearchTimeout loop => Sys2Proof.Machine.execRateSearchTimeout loop s
  | .searchRetryExpiry loop => Sys2Proof.Machine.execSearchRetryExpiry loop s
  | .searchIdleGuardMet loop => Sys2Proof.Machine.execSearchIdleGuardMet loop s
  | .gpiRawChange input => Sys2Proof.Machine.execGpiRawChange input s
  | .gpiDebounceExpiry input => Sys2Proof.Machine.execGpiDebounceExpiry input s
  | .programmingComplete agrees => Sys2Proof.Machine.execProgrammingComplete agrees s
  | .startScanComplete => Sys2Proof.Machine.execStartScanComplete s
  | .clByteReceived byte => Sys2Proof.Machine.execClByteReceived byte s
  | .mixerByteReceived port byte => Sys2Proof.Machine.execMixerByteReceived port byte s
  | .loopReplyCharacter loop char => Sys2Proof.Machine.execLoopReplyCharacter loop char s

end Sys2Proof.Machine
end

