-- ==== Sys2Proof/Machine/Pins.lean ====
section
/-! DEFINITION. What stands at the output pins (Pin summary of 00_scope.md): the bytes or characters of whatever a transmitter is sending
(chapter 12), the loops' driver enables, and the contacts. Each is read from the state alone. -/

namespace Sys2Proof.Machine

/-- CL_TX: the bytes of the frame being sent (12.1). -/
def State.clTx (s : State) : Option (List Byte) := s.link.sending.map OutFrame.bytes

/-- The bytes of a record before its check byte (12.7). -/
def FabRec.fields : FabRec → List Byte
  | .video (.xset d f b) => 0x10#8 :: byteOf (videoCard d).val :: byteOf d.val :: (optIndex f ++ flag b)
  | .video (.xquery d) => [0x11#8, byteOf (videoCard d).val, byteOf d.val]
  | .aset r => 0x20#8 :: byteOf (audioCard r.port).val :: byteOf r.port.val :: imageBytes r.image
  | .probe c => [0x30#8, byteOf c.val]

/-- The bytes of a record on the fabric line: type, fields and check (12.7). -/
def FabRec.bytes (r : FabRec) : List Byte := r.fields ++ [checkFor r.fields]

/-- FB_TX: the bytes of the record being sent (R42). -/
def State.fbTx (s : State) : Option (List Byte) := s.fabric.sending.map fun x => x.record.bytes

/-- The characters of a message after its address character: kind, body and check (12.6). -/
def LoopMessage.data : LoopMessage → List Byte
  | .poll cs => loopData 0x01#8 (byteOf cs.length :: cs.flatMap fun c => [byteOf c.1.val, lampByte c.2])
  | .enrol _ => loopData 0x02#8 []
  | .stateQuery => loopData 0x03#8 []

/-- The 11 bits of a character in the order in which they are sent, bit 0 first: start 0, the data bits with the least significant first,
the mark (1 for an address character), stop 1 (R90, 12.6). -/
def sentChar (mark : Bool) (data : Byte) : BitVec 11 := 1#1 ++ BitVec.ofBool mark ++ data ++ 0#1

/-- The characters of a message to an address: one address character, then data characters alone (R90, 12.6). -/
def LoopMessage.chars (a : AddrIx) (m : LoopMessage) : List (BitVec 11) :=
  sentChar true (byteOf (addressOf a)) :: m.data.map (sentChar false)

/-- What a loop's driver puts on its line: a break, or characters one directly after the other (R91). -/
inductive LoopDrive where
  | breaking
  | message (chars : List (BitVec 11))
deriving DecidableEq, Repr

/-- LPn_A and LPn_B while LPn_DE is on: a break, or the characters of a message; none while the driver is off (R91, R104, R106). -/
def Loop.drive (x : Loop) : Option LoopDrive :=
  match x.state, x.exchange with
  | .starting _ none, _ => some .breaking
  | .rateSearch _ .breaking, _ => some .breaking
  | .running, some ⟨a, m, .sending⟩ => some (.message (m.chars a))
  | _, _ => none

/-- LPn_DE: the driver is on (R91). -/
def State.driverOn (s : State) (l : LoopId) : Bool := (s.loop l).drive.isSome

/-- A GPO pin is driven low while its output is active, and released otherwise (R170). -/
def State.gpoLow (s : State) (o : GpoId) : Bool := (s.gpio.outputs.get o).active

end Sys2Proof.Machine
end

