-- ==== Sys2Proof/Safety.lean ====
section
/-! DEFINITION. What a statement may say of a run: that the device goes on, what a command leaves unchanged, and the invariants of the
blocks that the rules state for every moment. -/

namespace Sys2Proof.Machine

/-! ## Going on -/

/-- A step from `s` answers a next state. -/
def goesOn (s : State) : Prop := ∃ t, step s = .next t

/-- Whether a row is the expiry of a timer: the only rows at which the clock moves (log entry 1). -/
def isExpiry : Instr → Bool
  | .clGapTimeout => true
  | .mixerGapTimeout _ => true
  | .mixerStaleTimeout _ => true
  | .frameLossTimeout => true
  | .freeRunPeriodExpiry => true
  | .fabricReplyTimeout _ => true
  | .probeTimerExpiry _ => true
  | .loopReplyWindowTimeout _ => true
  | .loopReplyGapTimeout _ => true
  | .rosterHoldExpiry _ => true
  | .lockDeadlineExpiry _ => true
  | .latchTimerExpiry _ _ => true
  | .lineFaultRestartExpiry _ => true
  | .startingWaitExpiry _ _ => true
  | .rateSearchTimeout _ => true
  | .searchRetryExpiry _ => true
  | .gpiDebounceExpiry _ => true
  | _ => false

/-! ## What stays -/

/-- The parts of the device's state. -/
inductive Part where
  | clock
  | map
  | xpt
  | fabric
  | mixers
  | engines
  | loops
  | roster
  | keymap
  | lamps
  | talk
  | gpio
  | store
  | link
  | pending
deriving DecidableEq, Repr

/-- What a part holds. -/
def Part.Holds : Part → Type
  | .clock => Nat
  | .map => SourceMap
  | .xpt => Crosspoint
  | .fabric => Fabric
  | .mixers => Pair MixerPort
  | .engines => Pair Engine
  | .loops => Tbl 4 Loop
  | .roster => PanelTbl RosterEntry
  | .keymap => PanelTbl KeyMapEntry
  | .lamps => Lamps
  | .talk => Talk
  | .gpio => Gpio
  | .store => Store
  | .link => Link
  | .pending => List Instr

/-- A part of a state. -/
def State.part (s : State) : (p : Part) → p.Holds
  | .clock => s.clock
  | .map => s.map
  | .xpt => s.xpt
  | .fabric => s.fabric
  | .mixers => s.mixers
  | .engines => s.engines
  | .loops => s.loops
  | .roster => s.roster
  | .keymap => s.keymap
  | .lamps => s.lamps
  | .talk => s.talk
  | .gpio => s.gpio
  | .store => s.store
  | .link => s.link
  | .pending => s.pending

/-- Every part but the named ones is the same in `t` as in `s`: the frame of a command. -/
def Keeps (touched : List Part) (s t : State) : Prop := ∀ p, p ∉ touched → t.part p = s.part p

/-! ## Invariants of the blocks -/

/-- Thresholds lie within 1-1024 (R14). -/
def Thresholds.inRange (t : Thresholds) : Prop := 1 ≤ t.air ∧ t.air ≤ 1024 ∧ 1 ≤ t.preview ∧ t.preview ≤ 1024

/-- Only CAMERA sources have camera ports (R7), and every threshold lies in its range (R14). -/
def SourceMap.wf (m : SourceMap) : Prop :=
  (∀ x, (m.cameraPort.get x).isSome → m.classAt x = .camera) ∧ ∀ p, (m.thresholds.get p).inRange

/-- The take list holds at most one entry for any destination, and the forced flag is set on LINK entries alone (R17). -/
def Crosspoint.listWf (x : Crosspoint) : Prop :=
  (x.takes.map fun e => e.dest).Nodup ∧ ∀ e ∈ x.takes, e.forced = true → e.origin = .link

/-- A reference that the record of stage `k` may hold: P is never re-entered, nor the stage itself (R58, R60). -/
def Ref.allowed (k : StageId) : Ref → Prop
  | .stage j => j ≠ 0 ∧ j ≠ k
  | _ => True

/-- A stage record within the ranges of R58. -/
def StageRec.inRange (k : StageId) (r : StageRec) : Prop :=
  r.position ≤ 1024 ∧ r.gain1 ≤ 1024 ∧ r.gain2 ≤ 1024
    ∧ r.aRef.allowed k ∧ r.bRef.allowed k ∧ r.key1.allowed k ∧ r.key2.allowed k

/-- Every record of a mixer state table satisfies its ranges (R58). -/
def stagesInRange (t : Tbl 4 StageRec) : Prop := ∀ k, (t.get k).inRange k

/-- The mixer state tables, and the snapshots that running computations hold, satisfy the ranges of R58. -/
def State.stagesWf (s : State) : Prop :=
  ∀ p, stagesInRange (s.mixers.get p).table ∧ ∀ x, (s.engines.get p).running = some x → stagesInRange x.stages

/-- The send queue holds at most one video record for any destination, and at most one ASET for any listener port (R41). -/
def Fabric.queueWf (f : Fabric) : Prop := (f.video.map VideoRec.dest).Nodup ∧ (f.audio.map fun r => r.port).Nodup

/-- A listener record of port `p` (R136): at most 8 entries in each list, no talker port twice in the talker list, never the listener's
own port, no cause set empty, waiting entries only while the talker list is full, and no waiting entry of a talker that has an entry. -/
structure Listener.wf (p : PortId) (l : Listener) : Prop where
  talkersRoom : l.talkers.length ≤ Config.listRoom
  waitsRoom : l.waits.length ≤ Config.listRoom
  talkersOnce : (l.talkers.map fun e => e.talker).Nodup
  causesSome : ∀ e ∈ l.talkers, e.causes ≠ []
  notOwn : ∀ e ∈ l.talkers, e.talker ≠ p
  waitNotOwn : ∀ w ∈ l.waits, w.talker ≠ p
  waitsFull : l.waits ≠ [] → l.talkers.length = Config.listRoom
  waitsApart : ∀ w ∈ l.waits, ∀ e ∈ l.talkers, e.talker ≠ w.talker

/-- What chapter 8 says of the talk engine's tables at every moment: the listener records (R136), no talk or listen that reaches its own
port (R135, R138), a talk's listeners ascending and a listen's talkers without duplicates (R134, R135), group lists of at most 24 ports
without duplicates (R137), and circuits whose talent is not their program port (R155). -/
structure Talk.listsWf (t : Talk) : Prop where
  listenersWf : ∀ p, Listener.wf p (t.listeners.get p)
  talksApart : ∀ i r, t.talks.get i = some r → r.talker ∉ r.listeners
  listensApart : ∀ i r, t.listens.get i = some r → r.listener ∉ r.talkers
  talksOrdered : ∀ i r, t.talks.get i = some r → r.listeners.Pairwise (· < ·)
  listensOnce : ∀ i r, t.listens.get i = some r → r.talkers.Nodup
  groupsWf : ∀ g, (t.groups.get g).length ≤ 24 ∧ (t.groups.get g).Nodup
  circuitsWf : ∀ i, (t.circuits.get i).talent ≠ some (t.circuits.get i).program

/-- What R154 says of the PROGRAM causes: each configured circuit's stands in its talent's talker list, at its program port's entry, and
none waits. -/
def Talk.programsStand (t : Talk) : Prop :=
  (∀ i n, (t.circuits.get i).talent = some n →
      ∃ e ∈ (t.listeners.get n).talkers, e.talker = (t.circuits.get i).program ∧ Cause.program i ∈ e.causes)
    ∧ ∀ p, ∀ w ∈ (t.listeners.get p).waits, ∀ i, w.cause ≠ .program i

/-- The GPIO unit's copies are what their owners hold, and every output is active exactly where its mapping's condition holds
(R170, R171). -/
structure State.gpioAgrees (s : State) : Prop where
  colours : ∀ p x, (s.gpio.colours.get p).get x = ((s.engines.get p).published.get x).colour
  combined : ∀ x, s.gpio.combined.get x = s.combinedColour x
  talking : ∀ n, s.gpio.talking.get n = s.talk.talking n
  faulted : ∀ d, s.gpio.faulted.get d = true ↔ (s.dest d).state = .faulted
  absent : ∀ c, s.gpio.absent.get c = true ↔ (s.card c).presence = .absent
  freeRun : s.gpio.freeRun = true ↔ ∃ t, s.xpt.watcher.state = .freeRun t
  outputs : ∀ o, (s.gpio.outputs.get o).active = s.gpio.holds (s.gpio.outputs.get o).mapping

/-- A page's entries: at most 32, at most one for any destination, and none but in a VALID page (R174). -/
def Page.wf (p : Page) : Prop :=
  p.entries.length ≤ 32 ∧ (p.entries.map fun e => e.dest).Nodup ∧ (p.state ≠ .valid → p.entries = [])

/-- The entries of a WRITE operation (R176, R178). -/
def StoreState.wf : StoreState → Prop
  | .operating (.write _ es) _ _ => es.length ≤ 32 ∧ (es.map fun e => e.dest).Nodup
  | _ => True

/-- The store's pages, the entries being programmed, and a BAD header, which names none (R174 to R176). -/
def Store.wf (x : Store) : Prop := (∀ n, (x.pages.get n).wf) ∧ x.state.wf ∧ (x.header.bad = true → x.header.boot = none)

/-- The queues of the control link: at most 4 requests, 4 immediate replies, one reply in the reply slot, and 32 notices
(R190, R191, R193, R195); a request waits only behind a reply in the slot, and the transmitter is idle only with nothing to send
(R191, R197). -/
structure Link.wf (l : Link) : Prop where
  requestsRoom : l.requests.length ≤ Config.requestRoom
  immediateRoom : l.immediate ≤ Config.immediateRoom
  slotRoom : (l.replies.filter fun r => r.slot).length ≤ 1
  noticesRoom : l.notices.length ≤ Config.noticeRoom
  notServing : l.serving = false
  waitsForSlot : l.requests ≠ [] → l.slotHeld = true
  busyWhileWork : l.sending = none → l.replies = [] ∧ l.notices = [] ∧ l.continuation = none

/-- A loop's trim code, nominal bit time, reply buffer and enrolment position (R94, R100, R103). -/
def Loop.wf (x : Loop) : Prop :=
  x.trim ≤ 31 ∧ x.nominal ∈ [384, 192, 96, 48] ∧ x.buffer.length ≤ Config.bufferRoom ∧ 1 ≤ x.enrolPosition ∧ x.enrolPosition ≤ 16

/-! ## Hypotheses about the control link -/

/-- The control link is quiet: no request waits, no reply waits, and the transmitter is idle. -/
def Link.quiet (l : Link) : Prop := l.requests = [] ∧ l.replies = [] ∧ l.sending = none ∧ l.serving = false

/-- A notice as the queue takes it: discarded where the filter holds it back, otherwise joined or counted as dropped (R194, R195). -/
def Link.held (l : Link) (n : Notice) : Link := if passesFilter l.filter n then l.offer n else l

/-- What the service of a request leaves at a link that it found quiet: the notices its owner raised, offered to the queue in order, and
its reply begun by the transmitter (R191, R197). -/
def Link.served (l : Link) (ns : List Notice) (tag : Nat) (r : Request) (result : Result) (data : List Byte) : Link :=
  { ns.foldl Link.held l with sending := some (Reply.frame ⟨tag, result, r.kind, data⟩) }

/-- The link of a request in service that found it quiet (R191). -/
def Link.inService (l : Link) (tag : Nat) (r : Request) : Link := { l with requests := [⟨tag, r⟩], serving := true }

/-- A command that stands for a request is answered, and nothing else happens: the link found quiet begins the reply, and the step ends as
every step does. -/
def AnswersOnly (i : Instr) (s : State) (tag : Nat) (r : Request) (result : Result) (data : List Byte) : Prop :=
  exec i s = .next (State.settle { s with link := s.link.served [] tag r result data })

/-- A command whose event cannot occur in a state changes nothing (log entry 3). -/
def NoEffect (i : Instr) (s : State) : Prop := exec i s = .next s

/-! ## Triggers and lamps -/

/-- The engine of a production as a trigger leaves it, whose computation would start on the state `t` (R69, R70, R72). -/
def Engine.triggered (e : Engine) (t : State) (p : Prod2) : Engine :=
  if e.pendingAdoption then e
  else if e.running.isSome then { e with again := true }
  else { e with running := some (t.snapshot p), again := false }

/-- Both engines after one trigger for each production that a test names. -/
def enginesTriggered (es : Pair Engine) (t : State) (f : Prod2 → Bool) : Pair Engine :=
  ⟨if f .a then es.a.triggered t .a else es.a, if f .b then es.b.triggered t .b else es.b⟩

/-- Every lamp holds the value its composition gives (R127). -/
def State.composed (s : State) : Prop := ∀ p l, (s.lampImage p).get l = s.lamp p l

/-! ## The boot salvo and the end of adoption -/

/-- `v` is `u` after the staging of the boot salvo, where it is due and nothing holds it back (R184): the page that the header names is
handed as a group with recaller LINK, or skipped, with a STORE notice; a BAD header, or one that names none, stages nothing. -/
def BootStaged (u v : State) : Prop :=
  let x := u.store
  let boot : Option SalvoId := if x.header.bad then none else x.header.boot
  let w : State := { u with store := { x with bootPending := false } }
  (u.xpt.adopted = false ∨ x.bootPending = false ∨ x.state = .starting ∨ (∃ n, boot = some n ∧ x.programming n = true) → v = u)
  ∧ (u.xpt.adopted = true → x.bootPending = true → x.state ≠ .starting →
      (boot = none → v = w)
      ∧ ∀ n, boot = some n → x.programming n = false →
        match (x.pages.get n).state with
        | .empty => v = { w with link := u.link.notify (.store (.skipped n .absent)) }
        | .bad => v = { w with link := u.link.notify (.store (.skipped n .state)) }
        | .valid =>
          let es := (x.pages.get n).entries
          let r := w.offerGroup n .link es
          let told := if r.2 = [] then u.link else u.link.notify (.taken (.recall n .link) (r.2.map (RefusedEntry.item n .link)))
          v = { r.1 with link := told.notify (.store (.staged n es.length (es.length - r.2.length))) })

/-- Every card has left UNKNOWN and no destination is left to adopt: adoption can end (R52). -/
def State.allAdopted (s : State) : Prop := ∀ c, (s.card c).presence ≠ .unknown ∧ (s.card c).progress = []

/-- The engine of a production with its adoption-pending flag cleared and a computation begun on the state `t` (R72). -/
def Engine.adopts (e : Engine) (t : State) (p : Prod2) : Engine :=
  { e with pendingAdoption := false, running := some (t.snapshot p), again := false }

/-- `v` is `u` after the end of adoption, where this is the moment of it: frame events are honoured from now on, the boot salvo is staged,
and both engines start (R32, R52, R72). -/
def AdoptionChecked (u v : State) : Prop :=
  (u.xpt.adopted = true ∨ ¬ u.allAdopted → v = u)
  ∧ (u.xpt.adopted = false → u.allAdopted →
      ∃ w, BootStaged { u with xpt := { u.xpt with adopted := true } } w
        ∧ v = { w with engines := ⟨w.engines.a.adopts w .a, w.engines.b.adopts w .b⟩ })

/-! ## Listener records and images (R136, R140 to R143, R156, R159) -/

/-- Whether an entry is protected, by the talk records `ts` (R136). -/
def TalkerEntry.guarded (e : TalkerEntry) (ts : Tbl 128 (Option TalkRec)) : Prop :=
  (∃ i, .program i ∈ e.causes) ∨ ∃ id r, .talk id ∈ e.causes ∧ ts.get id = some r ∧ r.priority = true

/-- Two talker lists that agree in all but their dim flags. -/
def AgreeButDim (xs ys : List TalkerEntry) : Prop := (xs.map fun e => { e with dim := false }) = ys.map fun e => { e with dim := false }

/-- Each dim flag is set exactly where the entry holds a circuit's PROGRAM cause and a talk to that circuit stands IN at the listener (R156). -/
def Listener.dimsFollow (l : Listener) (ts : Tbl 128 (Option TalkRec)) : Prop :=
  ∀ e ∈ l.talkers, e.dim = true ↔
    ∃ i, .program i ∈ e.causes ∧ ∃ x ∈ l.talkers, ∃ id r, .talk id ∈ x.causes ∧ ts.get id = some r ∧ r.target = .ifb i

/-- `m` is the listener record `l` after a record has been placed there: the first of R140's five steps that applies, with the displacement
of R141; the dim flags are left open here. -/
def PlacedAt (ts : Tbl 128 (Option TalkRec)) (l m : Listener) (talker : PortId) (c : Cause) (priority : Bool) : Prop :=
  let has : Prop := ∃ e ∈ l.talkers, e.talker = talker
  let entry (n : BitVec 32) : TalkerEntry := { talker := talker, causes := [c], dim := false, creation := n }
  let displaces : Prop := priority = true ∧ (∀ w ∈ l.waits, w.talker ≠ talker) ∧ ∃ e ∈ l.talkers, ¬ e.guarded ts
  (has → m.waits = l.waits ∧ ∃ f : TalkerEntry → TalkerEntry, m.talkers = l.talkers.map f
      ∧ ∀ e, (f e).talker = e.talker ∧ (f e).creation = e.creation
        ∧ ∀ x, x ∈ (f e).causes ↔ x ∈ e.causes ∨ (e.talker = talker ∧ x = c))
  ∧ (¬ has → l.talkers.length < 8 → m.waits = l.waits ∧ ∃ n, AgreeButDim (l.talkers ++ [entry n]) m.talkers)
  ∧ (¬ has → 8 ≤ l.talkers.length →
      (displaces → ∃ older e newer n, l.talkers = older ++ e :: newer ∧ ¬ e.guarded ts ∧ (∀ x ∈ newer, x.guarded ts)
        ∧ AgreeButDim (older ++ newer ++ [entry n]) m.talkers
        ∧ m.waits = (e.causes.map (fun x => (⟨e.talker, x⟩ : WaitEntry)) ++ l.waits).take 8)
      ∧ (¬ displaces → AgreeButDim l.talkers m.talkers
          ∧ m.waits = if l.waits.length < 8 then l.waits ++ [⟨talker, c⟩] else l.waits))

/-- A talker list with a cause taken out of its talker's entry, which goes where it is left without causes (R142). -/
def Listener.without (l : Listener) (talker : PortId) (c : Cause) : List TalkerEntry :=
  l.talkers.filterMap fun e =>
    if e.talker = talker then
      (if (e.causes.filter (· != c)).isEmpty then none else some { e with causes := e.causes.filter (· != c) })
    else some e

/-- `m` is the listener record `l` after a cause has been removed: it leaves both lists, an entry without causes goes, and its freed place
promotes the front of the wait list with every waiting cause of that talker (R142); the dim flags are left open here. -/
def RemovedFrom (l m : Listener) (talker : PortId) (c : Cause) : Prop :=
  let kept := l.without talker c
  let waits := l.waits.filter fun w => !(w.talker == talker && w.cause == c)
  (kept.length = l.talkers.length ∨ waits = [] → AgreeButDim kept m.talkers ∧ m.waits = waits)
  ∧ ∀ w rest, kept.length < l.talkers.length → waits = w :: rest →
      m.waits = waits.filter (·.talker != w.talker)
      ∧ ∃ e, AgreeButDim (kept ++ [e]) m.talkers ∧ e.talker = w.talker ∧ ∀ x, x ∈ e.causes ↔ (⟨w.talker, x⟩ : WaitEntry) ∈ waits

/-- Every record but the one named keeps all but its resolution, which is that of its placements where these have changed (R143). -/
def OthersReassessed (s t : State) (but : Cause) : Prop :=
  (∀ id r, .talk id ≠ but → s.talk.talks.get id = some r →
    ∃ n, t.talk.talks.get id = some { r with resolution := n }
      ∧ (t.talk.talkPlacements id r ≠ s.talk.talkPlacements id r → n = resolutionOf (t.talk.talkPlacements id r)))
  ∧ ∀ id r, .listen id ≠ but → s.talk.listens.get id = some r →
    ∃ n, t.talk.listens.get id = some { r with resolution := n }
      ∧ (t.talk.listenPlacements id r ≠ s.talk.listenPlacements id r → n = resolutionOf (t.talk.listenPlacements id r))

/-- `m` is the listener record `l` after a listen has been placed there for each of its talkers in turn (R140). -/
def PlacedInTurn (ts : Tbl 128 (Option TalkRec)) (c : Cause) : List PortId → Listener → Listener → Prop
  | [], l, m => AgreeButDim l.talkers m.talkers ∧ m.waits = l.waits
  | talker :: rest, l, m => ∃ x, PlacedAt ts l x talker c false ∧ PlacedInTurn ts c rest x m

/-- `m` is the listener record `l` after a cause has been removed there for each of its talkers in turn, with each promotion (R142). -/
def RemovedInTurn (c : Cause) : List PortId → Listener → Listener → Prop
  | [], l, m => AgreeButDim l.talkers m.talkers ∧ m.waits = l.waits
  | talker :: rest, l, m => ∃ x, RemovedFrom l x talker c ∧ RemovedInTurn c rest x m

/-- Listen `id`, with record `r`, has been placed at its listener for each of its talkers, and no other listener record has changed. -/
def ListenPlaced (s t : State) (id : ListenId) (r : ListenRec) : Prop :=
  let m := t.talk.listeners.get r.listener
  PlacedInTurn t.talk.talks (.listen id) r.talkers (s.talk.listeners.get r.listener) m
    ∧ (r.talkers ≠ [] → m.dimsFollow t.talk.talks) ∧ ∀ p, p ≠ r.listener → t.talk.listeners.get p = s.talk.listeners.get p

/-- Listen `id`, with record `r`, has been removed from its listener: its waiting causes first, then those in the talker list, one talker
after another with each promotion (R145); no other listener record has changed. -/
def ListenRemoved (s t : State) (id : ListenId) (r : ListenRec) : Prop :=
  let l := s.talk.listeners.get r.listener
  let m := t.talk.listeners.get r.listener
  RemovedInTurn (.listen id) r.talkers { l with waits := l.waits.filter fun w => w.cause != .listen id } m
    ∧ m.dimsFollow t.talk.talks ∧ ∀ p, p ≠ r.listener → t.talk.listeners.get p = s.talk.listeners.get p

/-! ## Records resolved again (R143, R144) -/

/-- Every record of another target keeps all but its resolution, which is that of its placements where these have changed (R143). -/
def OthersKept (s t : State) (target : Target) : Prop :=
  (∀ id r, s.talk.talks.get id = some r → r.target ≠ target →
    ∃ n, t.talk.talks.get id = some { r with resolution := n }
      ∧ (t.talk.talkPlacements id r ≠ s.talk.talkPlacements id r → n = resolutionOf (t.talk.talkPlacements id r)))
  ∧ ∀ id r, s.talk.listens.get id = some r → r.target ≠ target →
    ∃ n, t.talk.listens.get id = some { r with resolution := n }
      ∧ (t.talk.listenPlacements id r ≠ s.talk.listenPlacements id r → n = resolutionOf (t.talk.listenPlacements id r))

/-- Every talk and listen of a target that has been resolved again stays, with its talker or listener, target, origin and priority; its
resolution is that of its placements, and it stands nowhere where it is no longer resolved to. No record is created. -/
def ResolvedAgain (s t : State) (target : Target) : Prop :=
  (∀ id, s.talk.talks.get id = none → t.talk.talks.get id = none)
  ∧ (∀ id, s.talk.listens.get id = none → t.talk.listens.get id = none)
  ∧ (∀ id r, s.talk.talks.get id = some r → r.target = target →
      ∃ new n, let r' := { r with listeners := new, resolution := n }
        t.talk.talks.get id = some r' ∧ n = resolutionOf (t.talk.talkPlacements id r')
          ∧ ∀ p ∈ r.listeners, p ∉ new → (t.talk.listeners.get p).placement r.talker (.talk id) = .excluded)
  ∧ ∀ id r, s.talk.listens.get id = some r → r.target = target →
      ∃ new n, let r' := { r with talkers := new, resolution := n }
        t.talk.listens.get id = some r' ∧ n = resolutionOf (t.talk.listenPlacements id r')
          ∧ ∀ p ∈ r.talkers, p ∉ new → (t.talk.listeners.get r.listener).placement p (.listen id) = .excluded

/-- A record of a target reaches a listener port, as it was resolved in `s` or as it is in `t`. -/
def Reaches (s t : State) (target : Target) (p : PortId) : Cause → Prop
  | .talk id =>
    (∃ r, s.talk.talks.get id = some r ∧ r.target = target ∧ p ∈ r.listeners)
      ∨ ∃ r, t.talk.talks.get id = some r ∧ r.target = target ∧ p ∈ r.listeners
  | .listen id => ∃ r, s.talk.listens.get id = some r ∧ r.target = target ∧ r.listener = p
  | .program _ => False

/-- What the three passes of talk `id` do at one listener port, where its record was `r` and is `r'`: left, placed again where it was EXCLUDED,
joined, or untouched (R144). -/
def TalkMoved (s t : State) (id : TalkId) (r r' : TalkRec) (p : PortId) : Prop :=
  let c : Cause := .talk id
  let l := s.talk.listeners.get p
  let m := t.talk.listeners.get p
  if p ∈ r'.listeners then
    if p ∈ r.listeners ∧ l.placement r.talker c ≠ .excluded then m = l
    else PlacedAt t.talk.talks l m r.talker c r.priority ∧ m.dimsFollow t.talk.talks
  else if p ∈ r.listeners then RemovedFrom l m r.talker c ∧ m.dimsFollow t.talk.talks
  else m = l

/-- What the three passes of listen `id` do at its listener port, where its record was `r` and is `r'`: the leaving talkers in the held order,
the staying EXCLUDED ones, and the joining ones in the new order (R144). -/
def ListenMoved (s t : State) (id : ListenId) (r r' : ListenRec) : Prop :=
  let c : Cause := .listen id
  let l := s.talk.listeners.get r.listener
  ∃ x y, RemovedInTurn c (r.talkers.filter fun p => !r'.talkers.contains p) l x
    ∧ PlacedInTurn t.talk.talks c (r.talkers.filter fun p => r'.talkers.contains p && l.placement p c == .excluded) x y
    ∧ PlacedInTurn t.talk.talks c (r'.talkers.filter fun p => !r.talkers.contains p) y (t.talk.listeners.get r.listener)

/-- Talk `id`, with record `r`, has been placed at each of its listeners, and no other listener record has changed. -/
def TalkPlaced (s t : State) (id : TalkId) (r : TalkRec) : Prop :=
  OthersReassessed s t (.talk id) ∧ ∀ p,
    let l := s.talk.listeners.get p
    let m := t.talk.listeners.get p
    if p ∈ r.listeners then PlacedAt t.talk.talks l m r.talker (.talk id) r.priority ∧ m.dimsFollow t.talk.talks else m = l

/-- Talk `id`, with record `r`, has been removed from each of its listeners, and no other listener record has changed. -/
def TalkRemoved (s t : State) (id : TalkId) (r : TalkRec) : Prop :=
  OthersReassessed s t (.talk id) ∧ ∀ p,
    let l := s.talk.listeners.get p
    let m := t.talk.listeners.get p
    if p ∈ r.listeners then RemovedFrom l m r.talker (.talk id) ∧ m.dimsFollow s.talk.talks else m = l

/-- The images told to the fabric line controller (R45, R159): a changed image's ASET, as the image now stands, is queued or being sent where
the port's audio card is PRESENT, no other ASET has been queued, and nothing else of the fabric line has changed but the transmitter's choice. -/
def ImagesQueued (s t : State) : Prop :=
  ∃ f : Fabric, t.fabric = f.choose ∧ { f with audio := s.fabric.audio } = s.fabric
    ∧ (∀ p, (s.card (audioCard p)).presence = .present → t.talk.image p ≠ s.talk.image p → ⟨p, t.talk.image p⟩ ∈ f.audio)
    ∧ ∀ r ∈ f.audio, r ∈ s.fabric.audio ∨ ((s.card (audioCard r.port)).presence = .present ∧ r.image = t.talk.image r.port)

/-! ## Panels that fall silent or are lost (R35, R116, R118, R151) -/

/-- What one event leaves of the panels that enter SILENT or LOST by it, `ns` being notices it raises: talks of keys HELD or MOMENTARY end at
SILENT, all talks and listens at LOST, each with its item; the talk keys become IDLE; TALK keys held down are marked stale-down at SILENT,
and every key is up at LOST; a LOST panel has no selection, no refused-press display and a 30 s deadline on each of its locks, told in one
LOCK notice. The records of the others keep all but their resolution. -/
def PanelsFall (s t : State) (silent lost : PanelId → Bool) (ns : List Notice) : Prop :=
  let ended (o : TalkOrigin) : Option EndReason :=
    match o with
    | .panel p k => if lost p then some .lost else if silent p && (s.talk.key p k).isHeld then some .silent else none
    | _ => none
  let told (i : TalkItem) : Prop := ∃ items, .talk false items ∈ ns ∧ i ∈ items
  (∀ id, s.talk.talks.get id = none → t.talk.talks.get id = none)
  ∧ (∀ id r, s.talk.talks.get id = some r →
      match ended r.origin with
      | some why => t.talk.talks.get id = none ∧ told (r.item id (.ended why))
      | none => ∃ n, t.talk.talks.get id = some { r with resolution := n })
  ∧ (∀ id, s.talk.listens.get id = none → t.talk.listens.get id = none)
  ∧ (∀ id r, s.talk.listens.get id = some r →
      match ended r.origin with
      | some .lost => t.talk.listens.get id = none ∧ told (r.item id (.ended .lost))
      | _ => ∃ n, t.talk.listens.get id = some { r with resolution := n })
  ∧ (∀ p k, t.talk.key p k = if lost p || (silent p && (s.talk.key p k).silenced) then .idle else s.talk.key p k)
  ∧ (∀ p k, (t.entry p).keys.get k =
      if lost p then .up
      else if silent p && ((s.entry p).keys.get k).isDown && (s.assign p k).fn.isTalk then .stale
      else (s.entry p).keys.get k)
  ∧ (∀ p, (t.entry p).selected = if lost p then none else (s.entry p).selected)
  ∧ (∀ p, t.lamps.refused.getP p = if lost p then .replicate 48 false else s.lamps.refused.getP p)
  ∧ (∀ d, t.dest d =
      match (s.dest d).lock with
      | some ⟨.panel p, _⟩ =>
        if lost p then { s.dest d with lock := some ⟨.panel p, some (t.clock + Config.ms 30000)⟩ } else s.dest d
      | _ => s.dest d)
  ∧ ∀ p, lost p = true →
      let ds := (indices 64).filter fun d => (s.dest d).lockedBy (.panel p) fun _ => true
      ds ≠ [] → .lock .deadlineSet (.panel p) ds ∈ ns

/-- One miss has been reported to each entry of loop `l` that `hit` names: an entry that is not EMPTY counts it, an ACTIVE one entering SILENT
at 3 and a SILENT or JOINING one LOST at 10, with all that this entails and one ROSTER notice of the changes, after the notices `before`. -/
def LoopMissed (s t : State) (l : LoopId) (hit : AddrIx → Bool) (f : LoopFault) (cause : RosterCause) (before : List Notice) : Prop :=
  (∀ a, (s.entry ⟨l, a⟩).missed ≤ 255) →
    let e (a : AddrIx) : RosterEntry := s.entry ⟨l, a⟩
    let n (a : AddrIx) : Nat := min ((e a).missed + 1) 255
    let counts (a : AddrIx) : Bool := hit a && (e a).state != .empty
    let silent (a : AddrIx) : Bool := counts a && (e a).state == .active && decide (3 ≤ n a)
    let lost (a : AddrIx) : Bool := counts a && ((e a).state == .silent || (e a).state == .joining) && decide (10 ≤ n a)
    let after (a : AddrIx) : RosterState := if lost a then .lost else if silent a then .silent else (e a).state
    let items : List RosterItem :=
      ((indices 16).filter fun a => after a != (e a).state).map fun a => ⟨a, (e a).state, after a, n a, some f, none⟩
    let told : List Notice := if items = [] then [] else [.roster l cause items]
    (∀ p, p.loop ≠ l → t.entry p = s.entry p)
    ∧ (∀ a, t.entry ⟨l, a⟩ =
        { e a with
          state := after a
          missed := if counts a then n a else (e a).missed
          lastFault := if counts a then some f else (e a).lastFault
          lostAt := if lost a then some t.clock else (e a).lostAt
          keys := (t.entry ⟨l, a⟩).keys, selected := (t.entry ⟨l, a⟩).selected })
    ∧ (∀ a, (t.loop l).wanted.get a = if lost a then false else (s.loop l).wanted.get a)
    ∧ (∀ a, (t.loop l).holdOff.get a = if lost a then false else (s.loop l).holdOff.get a)
    ∧ ∃ ns, (∀ x ∈ ns, x.kind = .talk ∨ x.kind = .lock)
        ∧ PanelsFall s t (fun p => p.loop == l && silent p.addr) (fun p => p.loop == l && lost p.addr) ns
        ∧ t.link = (before ++ ns ++ told).foldl Link.notify s.link

/-- A roster entry that has passed through LOST to EMPTY (R118 to R120). -/
def RosterEntry.emptied : RosterEntry :=
  { state := .empty, ident := none, missed := 0, lastFault := none, selected := none, keys := .replicate 48 .up
    sent := .replicate 52 none, lostAt := none }

/-! ## Cards that become ABSENT (R47, R52) -/

/-- A destination after the outcome TIMEOUT of an XSET with a sequence bit (R28 to R30). -/
def Dest.timedOut (x : Dest) (bit : Bool) : Dest :=
  if x.seq ≠ bit then x
  else
    match x.state with
    | .inFlight => { x with state := .retry false, retryCount := 1 }
    | .retry true => { x with state := .faulted }
    | _ => x

/-- The notice of that outcome: a DEST_FAULT where it is the second (R30). -/
def Dest.timeoutNotice (x : Dest) (d : DestId) (bit : Bool) : List Notice :=
  if x.seq = bit ∧ x.state = .retry true then [.destFault d x.expected .timeout x.lastOrigin] else []

/-- `u` is `s` after card `c` has become ABSENT: each XSET removed from the send queue has the outcome TIMEOUT, in queue order, the
destinations still to adopt are PARKED and FAULTED, and the CARD notice follows. -/
def CardGone (s u : State) (c : CardId) (change : CardChange) : Prop :=
  let removed := s.fabric.video.filter fun r => videoCard r.dest == c
  let faults : List Notice :=
    removed.flatMap fun r => match r with | VideoRec.xset d _ bit => (s.dest d).timeoutNotice d bit | VideoRec.xquery _ => []
  s.fabric.queueWf →
    (∀ d,
      let x := match removed.find? fun r => r.dest == d with
        | some (.xset _ _ bit) => (s.dest d).timedOut bit
        | _ => s.dest d
      u.dest d = if d ∈ (s.card c).progress then { x with expected := none, state := .faulted } else x)
    ∧ u.link = (faults ++ [Notice.card c change]).foldl Link.notify s.link
    ∧ (∀ r ∈ u.fabric.video, videoCard r.dest ≠ c) ∧ (∀ r ∈ u.fabric.audio, audioCard r.port ≠ c)
    ∧ (u.card c).presence = .absent ∧ (u.card c).progress = []

end Sys2Proof.Machine
end

