-- ==== Sys2Proof/Certificates/Slice0/Obligations.lean ====
section
/-! DEFINITION. The statements for the provers. A request row's statements take a quiet control link (Link.quiet), so that the request is
served at once and its reply begun; what a link that is not quiet does with a request is a statement of its own. The state that a command
leaves is either written out whole, every part not named being as before, or given by its parts, Keeps naming the ones it may touch.
Every step ends with State.settle: the fabric transmitter chooses and the lamps are composed. -/

open Sys2Proof Sys2Proof.Machine

/-! ## Steps -/

/-- A step executes the command at the front of the queue on the state with the queue's rest. With no command waiting, one reference clock
passes and nothing else changes: that clause is the model's choice (log entry 1). -/
def Obligations.StepRunsFrontCommand : Prop :=
  (∀ (c : Instr) (rest : List Instr) (s : State), s.pending = c :: rest → step s = exec c { s with pending := rest })
    ∧ ∀ s : State, s.pending = [] → step s = .next { s with clock := s.clock + 1 }

/-- No command faults, none is refused, and no step stops. -/
def Obligations.EveryStepGoesOn : Prop :=
  (∀ (i : Instr) (s : State), ∃ t, exec i s = .next t) ∧ ∀ s : State, goesOn s

/-- A command leaves the waiting commands alone; the clock never runs back, and it moves at the expiry of a timer alone. How the clock moves
is the model's choice (log entry 1). -/
def Obligations.QueueAndClockFrame : Prop :=
  ∀ (i : Instr) (s t : State), exec i s = .next t →
    t.pending = s.pending ∧ s.clock ≤ t.clock ∧ (isExpiry i = false → t.clock = s.clock)

/-- After HARD_RESET, in whatever state it finds the device, every table, queue, list, count, flag, mark, copy and receiver holds the reset value
its rule gives, and every lamp shows NONE; the salvo pages, the boot header and the contacts' raw levels are kept. The state the model starts from is one such state. The model's choices in it: log entry 4. -/
def Obligations.HardResetValues : Prop :=
  exec .hardReset State.reset = .next State.reset ∧ ∀ s : State, ∃ t, exec .hardReset s = .next t
    ∧ (∀ b, t.map.classes.get b = .utility) ∧ (∀ x, t.map.cameraPort.get x = none)
    ∧ (∀ p n, (t.map.inputs.get p).get n = .unused) ∧ (∀ d, t.map.attrs.get d = ⟨.both, false, false⟩)
    ∧ (∀ p, t.map.thresholds.get p = ⟨52, 52⟩)
    ∧ (∀ d, (t.dest d).retryCount = 0 ∧ (t.dest d).seq = false ∧ (t.dest d).lock = none ∧ (t.dest d).lastOrigin = none)
    ∧ t.xpt.takes = [] ∧ t.xpt.superseded = [] ∧ t.xpt.adopted = false
    ∧ t.xpt.watcher = ⟨.freeRun (s.clock + Config.ms 40), none, Config.ms 40, none⟩
    ∧ (∀ c, (t.card c).presence = .unknown ∧ t.fabric.exchanges.get c = none)
    ∧ (∀ c, (t.card c).timeouts = 0 ∧ (t.card c).complaint = false ∧ (t.card c).probe = none ∧ (t.card c).progress = []
        ∧ (t.card c).owed = none)
    ∧ t.fabric.video = [] ∧ t.fabric.audio = [] ∧ t.fabric.rx = .awaitingGap
    ∧ t.fabric.sending = some ⟨.probe 0, false⟩ ∧ (∀ c, c ≠ 0 → t.fabric.probesDue.get c = true)
    ∧ (∀ p k, ((t.mixers.get p).table.get k) = ⟨.black, .black, 0, .black, 0, .black, 0⟩)
    ∧ (∀ p, (t.mixers.get p).state = .stale none ∧ (t.mixers.get p).discards = 0 ∧ (t.mixers.get p).adjusts = 0
        ∧ (t.mixers.get p).lastValid = none ∧ (t.mixers.get p).rx = .hunting)
    ∧ (∀ p, (t.engines.get p).running = none ∧ (t.engines.get p).again = false ∧ (t.engines.get p).pendingAdoption = true
        ∧ (t.engines.get p).cycle = none ∧ (t.engines.get p).count = 0
        ∧ ∀ x, (t.engines.get p).published.get x = ⟨.none, 0, 0, false, false⟩)
    ∧ (∀ l, (t.loop l).state = .disabled ∧ (t.loop l).rate = .r125000 ∧ (t.loop l).nominal = 192 ∧ (t.loop l).trim = 16)
    ∧ (∀ l, (t.loop l).enrolPosition = 16 ∧ (t.loop l).counts = ⟨0, 0, 0, 0, 0, 0, 0, 0⟩ ∧ (t.loop l).buffer = []
        ∧ (t.loop l).exchange = none ∧ (t.loop l).more = none ∧ (t.loop l).overrun = false
        ∧ ∀ a, (t.loop l).wanted.get a = false ∧ (t.loop l).holdOff.get a = false)
    ∧ (∀ p, (t.entry p).state = .empty ∧ (t.entry p).selected = none ∧ (t.keyMap p).production = .both ∧ (t.keyMap p).port = none
        ∧ (∀ k, (t.assign p k).fn = .unused) ∧ ∀ j, (t.keyMap p).slots.get j = none)
    ∧ (∀ p, (t.entry p).ident = none ∧ (t.entry p).missed = 0 ∧ (t.entry p).lastFault = none ∧ (t.entry p).lostAt = none
        ∧ (∀ j, (t.entry p).sent.get j = none) ∧ ∀ j, (t.lampImage p).get j = .dark)
    ∧ (∀ p k, (t.entry p).keys.get k = .up ∧ (t.assign p k).noLatch = false ∧ (t.assign p k).priority = false
        ∧ (t.lamps.refused.getP p).get k = false ∧ t.talk.key p k = .idle)
    ∧ (∀ i, t.talk.talks.get i = none) ∧ (∀ i, t.talk.listens.get i = none) ∧ (∀ p, t.talk.listeners.get p = ⟨[], []⟩)
    ∧ (∀ g, t.talk.groups.get g = []) ∧ (∀ i, t.talk.circuits.get i = ⟨none, 0, 0⟩) ∧ t.talk.latchWindow = 250
    ∧ t.talk.creation = 0 ∧ (∀ p x, (t.talk.colours.get p).get x = .none)
    ∧ (∀ i, t.gpi i = ⟨(s.gpi i).raw, false, 20, some (s.clock + Config.ms 20), .unmapped⟩)
    ∧ (∀ o, t.gpio.outputs.get o = ⟨.unmapped, false⟩) ∧ t.gpio.freeRun = true
    ∧ (∀ p x, (t.gpio.colours.get p).get x = .none) ∧ (∀ x, t.gpio.combined.get x = .none) ∧ (∀ p, t.gpio.talking.get p = false)
    ∧ (∀ d, t.gpio.faulted.get d = false) ∧ (∀ c, t.gpio.absent.get c = false)
    ∧ t.store.state = .starting ∧ t.store.pages = s.store.pages ∧ t.store.header = s.store.header
    ∧ t.link.requests = [] ∧ t.link.replies = [] ∧ t.link.notices = [] ∧ t.link.gapFlag = false ∧ t.link.dropped = 0
    ∧ t.link.droppedKinds = 0 ∧ t.link.sending = none ∧ t.link.continuation = none ∧ t.link.serving = false
    ∧ t.link.rx = .hunting ∧ t.link.counts = ⟨0, 0, 0, 0, 0, 0, 0, 0⟩
    ∧ t.link.noticeCount = 0 ∧ (∀ k, inKinds t.link.filter k = true)
    ∧ t.clock = s.clock ∧ t.pending = s.pending

/-! ## Frames, records and messages -/

/-- Every request body decodes to the request it was written from, with every field at every value its bytes can carry, and surplus bytes
are ignored. The model's choices in it: log entry 20. -/
def Obligations.RequestBodiesDecode : Prop :=
  ∀ r : Request, r.wf = true → ∀ surplus : List Byte, decodeRequest r.kind (r.body ++ surplus) = some r

/-- A body shorter than its request requires decodes to no request, wherever it is cut. The model's choices in it: log entry 20. -/
def Obligations.ShortBodiesAreRefused : Prop :=
  ∀ r : Request, r.wf = true → ∀ n < r.body.length, decodeRequest r.kind (r.body.take n) = none

/-- The bytes of a card's record decode to it, whatever bytes follow up to the idle gap; and the bytes of a panel's reply after its
address character read as that reply. -/
def Obligations.RecordsAndRepliesDecode : Prop :=
  (∀ d a q : Nat, d < 256 → a < 256 → q < 256 → ∀ surplus,
      decodeCardRecord ((CardRecord.xecho d a q).bytes ++ surplus) = some (.xecho d a q))
    ∧ (∀ p : Nat, p < 256 → ∀ surplus, decodeCardRecord ((CardRecord.aack p).bytes ++ surplus) = some (.aack p))
    ∧ (∀ c k : Nat, c < 256 → k < 256 → ∀ surplus,
        decodeCardRecord ((CardRecord.present c k).bytes ++ surplus) = some (.present c k))
    ∧ (∀ k n m r : Nat, n < 256 → m < 256 → r < 256 → ∀ kind, panelKindOf k = some kind →
        readReply (loopData identKind [byteOf k, byteOf n, byteOf m, byteOf r]) = some (.ident ⟨kind, n, m, r⟩))
    ∧ (∀ (more : Bool) (es : List KeyEvent), 1 ≤ es.length → es.length ≤ 8 → (∀ e ∈ es, e.key < 48) →
        readReply (loopData keysKind (keysCountByte more es.length :: es.map KeyEvent.byte)) = some (.keys more es))
    ∧ (∀ down : BitVec 48, readReply (loopData stateKind (stateBytes down)) = some (.state down))
    ∧ readReply (loopData holdKind []) = some .hold ∧ readReply (loopData quietKind []) = some .quiet

/-- A request row has exactly the effect of the frame that carries the request, where the receiver hunts (log entry 2). -/
def Obligations.RequestRowIsItsFrame : Prop :=
  ∀ (i : Instr) (tag : Nat) (r : Request) (s : State), i.request = some (tag, r) → i.wf = true → s.link.rx = .hunting →
    exec i s = exec (.clFrameReceived (byteOf r.kind) (byteOf tag) r.body) s

/-- The bytes of a frame, sync byte first, taken one by one with good stop bits by a control link receiver that hunts, do what the frame's
own row does; and so at a mixer port for the bytes of a STAGE record's frame and of a KEEP record's. The model's choices in it: log entries
3 and 7. -/
def Obligations.BytesMakeTheFrame : Prop :=
  let run (row : RxByte → Instr) (bs : List Byte) (s : State) : Host.Outcome State Fault Refusal :=
    bs.foldl (fun o b => match o with | .next t => exec (row ⟨b, true⟩) t | o => o) (.next s)
  ∀ s : State, s.settle = s →
    (s.link.rx = .hunting → ∀ (kind tag : Byte) (body : List Byte), body.length ≤ 248 →
      run .clByteReceived (Config.syncByte :: frameBytes kind tag body) s = exec (.clFrameReceived kind tag body) s)
    ∧ ∀ p, (s.mixers.get p).rx = .hunting → ∀ tag : Byte,
        (∀ r : RawStage, r.wf = true →
          run (.mixerByteReceived p) (Config.syncByte :: frameBytes stageKind tag r.bytes) s = exec (.mixerStageRecord p tag r) s)
        ∧ run (.mixerByteReceived p) (Config.syncByte :: frameBytes keepKind tag []) s = exec (.mixerKeepRecord p tag) s

/-! ## Invariants that every step keeps -/

/-- The invariants of the blocks hold of the state after reset. The model's choices in it: log entries 4 and 5. -/
def Obligations.InvariantsHoldAtReset : Prop :=
  State.reset.map.wf ∧ State.reset.stagesWf ∧ State.reset.xpt.listWf ∧ State.reset.fabric.queueWf ∧ State.reset.talk.listsWf
    ∧ State.reset.store.wf ∧ State.reset.link.wf ∧ (∀ l, (State.reset.loop l).wf) ∧ State.reset.composed
    ∧ State.reset.fabric.choose = State.reset.fabric ∧ State.reset.gpioAgrees ∧ State.reset.talk.programsStand

/-- Only a CAMERA source ever has a camera port, and every threshold stays within 1-1024. -/
def Obligations.SourceMapStaysWellFormed : Prop := ∀ s t : State, s.map.wf → step s = .next t → t.map.wf

/-- No stage record ever holds a value outside its range, a reference to stage P, or a reference to itself. -/
def Obligations.StageTablesStayInRange : Prop := ∀ s t : State, s.stagesWf → step s = .next t → t.stagesWf

/-- The take list never holds two entries of one destination, nor a forced entry of another origin than LINK. -/
def Obligations.TakeListStaysWellFormed : Prop := ∀ s t : State, s.xpt.listWf → step s = .next t → t.xpt.listWf

/-- The send queue never holds two video records of one destination, nor two ASETs of one listener port. -/
def Obligations.SendQueueHoldsOnePerTarget : Prop := ∀ s t : State, s.fabric.queueWf → step s = .next t → t.fabric.queueWf

/-- The talk engine's tables keep the shape that chapter 8 gives them: full talker lists before anything waits, never more than 8 in
either list, no talker twice, a talk's listeners ascending and a listen's talkers each once, nobody hearing itself. -/
def Obligations.ListenerRecordsStayWellFormed : Prop := ∀ s t : State, s.talk.listsWf → step s = .next t → t.talk.listsWf

/-- No page ever holds more than 32 entries, or two of one destination, or an entry while it is not VALID; a BAD header names none. -/
def Obligations.SalvoPagesStayWellFormed : Prop := ∀ s t : State, s.store.wf → step s = .next t → t.store.wf

/-- The queues of the control link never outgrow their room; a request waits only behind the reply slot, and the transmitter never idles
with something to send. -/
def Obligations.LinkQueuesStayBounded : Prop := ∀ s t : State, s.link.wf → step s = .next t → t.link.wf

/-- Each loop's trim code, nominal bit time, reply buffer and enrolment position stay within their ranges. -/
def Obligations.LoopsStayInRange : Prop := ∀ s t : State, (∀ l, (s.loop l).wf) → step s = .next t → ∀ l, (t.loop l).wf

/-- Every lamp of every entry holds at every moment the value that its key map entry and the functions' states give it, and the fabric
transmitter never idles while it may begin a record. The value of a key lamp goes by the key's function: the key's talk, a call-in or a
refused press for TALK, the listen's placements, the selected destination's state, take list entry, expected source and lock, and the
salvo's waiting recall or bad page; that of a tally slot by its source's published colour in the entry's production and the CALL modifier
of the source's camera port. The model's choices in it: log entry 7. -/
def Obligations.LampsAndFabricStaySettled : Prop :=
  (∀ s t : State, s.composed → s.fabric.choose = s.fabric → step s = .next t → t.composed ∧ t.fabric.choose = t.fabric)
  ∧ ∀ (s : State) (p : PanelId),
    let m := s.keyMap p
    let selected := (s.entry p).selected
    (∀ k : KeyId,
      let v : Lamp := s.lamp p ⟨k.val, by omega⟩
      let refused : Bool := (s.lamps.refused.getP p).get k
      match (m.keys.get k).fn with
      | .unused => v = .dark
      | .talk g =>
        let calls : Prop := ∃ n, m.port = some n ∧ ∃ e ∈ (s.talk.listeners.get n).talkers, (∃ id, Cause.talk id ∈ e.causes) ∧
          match g with
          | .port x => e.talker = x
          | .group h => e.talker ∈ s.talk.groups.get h
          | .ifb i => (s.talk.circuits.get i).talent = some e.talker
          | .follow _ => False
        (refused = true → v = .lit .red .fast)
        ∧ (∀ id r, refused = false → s.talk.talkOf (.panel p k) = some id → s.talk.talks.get id = some r →
            v = match r.resolution with
                | .complete => .lit .green .steady
                | .partly => .lit .green .fast
                | .pending => .lit .green .slow)
        ∧ (refused = false → s.talk.talkOf (.panel p k) = none → calls → v = .lit .amber .slow)
        ∧ (refused = false → s.talk.talkOf (.panel p k) = none → ¬ calls → v = .dark)
      | .listen _ =>
        (s.talk.listenOf (.panel p k) = none → v = .dark)
        ∧ ∀ id r, s.talk.listenOf (.panel p k) = some id → s.talk.listens.get id = some r →
            let all : Prop := ∀ n ∈ r.talkers, (s.talk.listeners.get r.listener).placement n (.listen id) = .placed
            (all → v = .lit .green .steady) ∧ (¬ all → v = .lit .green .fast)
      | .dest d =>
        let faulted := (s.dest d).state = .faulted
        (selected = some d → (faulted → v = .lit .green .slow) ∧ (¬ faulted → v = .lit .green .steady))
        ∧ (selected ≠ some d → (faulted → v = .lit .red .slow) ∧ (¬ faulted → v = .dark))
      | .source f =>
        (refused = true → v = .lit .red .fast)
        ∧ (refused = false → selected = none → v = .dark)
        ∧ ∀ d, refused = false → selected = some d →
            let taken : Prop := ∃ e ∈ s.xpt.takes, e.dest = d ∧ e.origin = .panel p ∧ e.source = f
            (taken → v = .lit .amber .fast)
            ∧ (¬ taken → v = if (s.dest d).expected = f then .lit .amber .steady else .dark)
      | .lock =>
        (selected = none → v = .dark)
        ∧ ∀ d, selected = some d →
            v = match (s.dest d).lock with
                | none => .dark
                | some x => if x.owner = .panel p then .lit .red .steady else .lit .red .slow
      | .salvo n =>
        let waiting : Prop := ∃ e ∈ s.xpt.takes, e.origin = .salvo n (.panel p)
        (refused = true → v = .lit .red .fast)
        ∧ (refused = false → waiting → v = .lit .amber .fast)
        ∧ (refused = false → ¬ waiting → v = if (s.store.pages.get n).state = .bad then .lit .red .slow else .dark))
    ∧ ∀ j : SlotId,
      let v : Lamp := s.lamp p ⟨48 + j.val, by omega⟩
      (m.slots.get j = none → v = .dark)
      ∧ ∀ x, m.slots.get j = some x →
          let inA := (s.engines.a.published.get x).colour
          let inB := (s.engines.b.published.get x).colour
          let c : Colour :=
            match m.production with
            | .a => inA
            | .b => inB
            | .both =>
              if inA = .red ∨ inB = .red then .red
              else if inA = .green ∨ inB = .green then .green
              else if inA = .amber ∨ inB = .amber then .amber
              else .none
          let called : Prop := ∃ n, s.map.cameraPort.get x = some n ∧
            ∃ e ∈ (s.talk.listeners.get n).talkers, ∃ id, Cause.talk id ∈ e.causes
          (called → v = if c = .none then .lit .amber .slow else .lit c .slow)
          ∧ (¬ called → v = if c = .none then .dark else .lit c .steady)

/-- The GPIO unit's copies always agree with the engines, the talk engine, the destinations, the cards and the frame watcher, and every
output is active exactly where its mapping's condition holds: never for NONE; for TALLY while the source's colour in the view is in the
colour set; for TALKING while a talk of the port stands IN somewhere; for FAULT while a destination is FAULTED or a card ABSENT; for
FREE_RUN while the frame watcher is in FREE_RUN. -/
def Obligations.OutputsFollowTheirConditions : Prop :=
  (∀ s t : State, s.gpioAgrees → step s = .next t → t.gpioAgrees)
  ∧ ∀ s : State, s.gpioAgrees → ∀ o : GpoId,
    let x := s.gpio.outputs.get o
    let within (c : Colour) (cs : ColourSet) : Prop :=
      match c with
      | .none => cs.none = true
      | .red => cs.red = true
      | .green => cs.green = true
      | .amber => cs.amber = true
    let inA (y : SourceId) : Colour := (s.engines.a.published.get y).colour
    let inB (y : SourceId) : Colour := (s.engines.b.published.get y).colour
    x.active = true ↔
      match x.mapping with
      | .unmapped => False
      | .tally y cs .a => within (inA y) cs
      | .tally y cs .b => within (inB y) cs
      | .tally y cs .both =>
        within
          (if inA y = .red ∨ inB y = .red then .red
            else if inA y = .green ∨ inB y = .green then .green
            else if inA y = .amber ∨ inB y = .amber then .amber
            else .none) cs
      | .talking p => ∃ n, ∃ e ∈ (s.talk.listeners.get n).talkers, e.talker = p ∧ ∃ id, .talk id ∈ e.causes
      | .fault => (∃ d, (s.dest d).state = .faulted) ∨ ∃ c, (s.card c).presence = .absent
      | .freeRun => ∃ until_, s.xpt.watcher.state = .freeRun until_

/-- A configured IFB circuit's PROGRAM cause always stands in its talent's talker list: it is never displaced and never waits. The model's
choices in it: log entry 12. -/
def Obligations.ProgramFeedsStand : Prop :=
  ∀ s t : State, s.talk.listsWf → s.talk.programsStand → step s = .next t → t.talk.programsStand

/-! ## Requests of the source map -/

/-- SET_CLASS: a new class is written for the whole block; a block that leaves CAMERA loses its camera ports, a block that becomes UTILITY
its FORCE_RED mappings (their levels kept), a CONFIG notice names what was cleared, and both engines are triggered. The present class is
answered DONE with no effect, codes 6 and 7 CLASS, and a block or code out of range RANGE. The model's choices in it: log entries 18 and
20. -/
def Obligations.SetClassWritesTheBlock : Prop :=
  ∀ (s : State) (tag : Nat), s.link.quiet →
    (∀ (b : BlockId) (code : Nat) (c : FeedClass), classOf code = some c →
      let old := s.map.classes.get b
      let cameras := if old = .camera then (sourcesOf b).filter fun x => (s.map.cameraPort.get x).isSome else []
      let forcers := if c = .utility then s.forcersOf b else []
      let data := [byteOf b.val, byteOf (classCode c)]
      (c = old → AnswersOnly (.setClass tag b.val code) s tag (.setClass b.val code) .done data)
      ∧ (c ≠ old → ∃ t, exec (.setClass tag b.val code) s = .next t
          ∧ Keeps [.map, .gpio, .engines, .link, .fabric, .lamps] s t
          ∧ t.map.classes = s.map.classes.set b c
          ∧ (∀ x, t.map.cameraPort.get x = if x ∈ cameras then none else s.map.cameraPort.get x)
          ∧ t.map.inputs = s.map.inputs ∧ t.map.attrs = s.map.attrs ∧ t.map.thresholds = s.map.thresholds
          ∧ (∀ i, t.gpi i = if i ∈ forcers then { s.gpi i with mapping := .unmapped } else s.gpi i)
          ∧ { t.gpio with inputs := s.gpio.inputs } = s.gpio
          ∧ t.engines = enginesTriggered s.engines t (fun _ => true)
          ∧ t.link = s.link.served (if cameras = [] ∧ forcers = [] then [] else [.config tag b cameras forcers]) tag
              (.setClass b.val code) .done data
          ∧ t.fabric = s.fabric.choose ∧ t.lamps.refused = s.lamps.refused ∧ t.composed))
    ∧ (∀ (b : BlockId) (code : Nat), 6 ≤ code →
        AnswersOnly (.setClass tag b.val code) s tag (.setClass b.val code) (if code ≤ 7 then .classed else .range)
          [byteOf b.val, byteOf (classCode (s.map.classes.get b))])
    ∧ ∀ block code : Nat, 16 ≤ block → AnswersOnly (.setClass tag block code) s tag (.setClass block code) .range []

/-- SET_CAMERA: a new camera port of a CAMERA source is written and both engines are triggered; the present port is answered DONE with no
effect, another class CLASS, and a port or source out of range RANGE. The model's choices in it: log entries 18 and 20. -/
def Obligations.SetCameraWritesThePort : Prop :=
  ∀ (s : State) (tag : Nat), s.link.quiet →
    (∀ (x : SourceId) (port : Nat) (n : Option PortId), optIndexOf 96 port = some n →
      let m := { s.map with cameraPort := s.map.cameraPort.set x n }
      let t := { s with map := m }
      (s.map.classAt x ≠ .camera →
        AnswersOnly (.setCamera tag x.val port) s tag (.setCamera x.val port) .classed
          (byteOf x.val :: optIndex (s.map.cameraPort.get x)))
      ∧ (s.map.classAt x = .camera → s.map.cameraPort.get x = n →
          AnswersOnly (.setCamera tag x.val port) s tag (.setCamera x.val port) .done (byteOf x.val :: optIndex n))
      ∧ (s.map.classAt x = .camera → s.map.cameraPort.get x ≠ n →
          exec (.setCamera tag x.val port) s =
            .next (State.settle
              { s with
                map := m
                engines := enginesTriggered s.engines t (fun _ => true)
                link := s.link.served [] tag (.setCamera x.val port) .done (byteOf x.val :: optIndex n) })))
    ∧ (∀ (x : SourceId) (port : Nat), 96 ≤ port → port ≠ 255 →
        AnswersOnly (.setCamera tag x.val port) s tag (.setCamera x.val port) .range (byteOf x.val :: optIndex (s.map.cameraPort.get x)))
    ∧ ∀ source port : Nat, 128 ≤ source → AnswersOnly (.setCamera tag source port) s tag (.setCamera source port) .range []

/-- SET_INPUT: a new entry is written into the named production's map, and that production's engine alone is triggered; the present entry is
answered DONE with no effect; a production other than A or B, an input or an entry out of range is refused RANGE. The model's choices in it:
log entries 18 and 20. -/
def Obligations.SetInputWritesOneMap : Prop :=
  ∀ (s : State) (tag : Nat), s.link.quiet →
    (∀ (p : Prod2) (n : InputId) (kind index : Nat) (e : InputEntry), inputEntryOf kind index = some e →
      let i : Instr := .setInput tag (prod2Code p) n.val kind index
      let r : Request := .setInput (prod2Code p) n.val kind index
      let data := byteOf (prod2Code p) :: byteOf n.val :: inputEntryBytes e
      let t := { s with map := { s.map with inputs := s.map.inputs.set p ((s.map.inputs.get p).set n e) } }
      ((s.map.inputs.get p).get n = e → AnswersOnly i s tag r .done data)
      ∧ ((s.map.inputs.get p).get n ≠ e →
          exec i s = .next (State.settle
            { t with engines := enginesTriggered s.engines t (· == p), link := s.link.served [] tag r .done data })))
    ∧ (∀ (p : Prod2) (n : InputId) (kind index : Nat), inputEntryOf kind index = none →
        AnswersOnly (.setInput tag (prod2Code p) n.val kind index) s tag (.setInput (prod2Code p) n.val kind index) .range
          (byteOf (prod2Code p) :: byteOf n.val :: inputEntryBytes ((s.map.inputs.get p).get n)))
    ∧ ∀ production input kind index : Nat, 2 ≤ production ∨ 40 ≤ input →
        AnswersOnly (.setInput tag production input kind index) s tag (.setInput production input kind index) .range []

/-- SET_DEST: the present fields are written together, and a trigger goes to each production of the destination's production before or
after; where nothing changes it is answered DONE with no effect; a destination or field out of range is refused RANGE. The bytes of the
reply's attributes follow log entry 20. -/
def Obligations.SetDestWritesPresentFields : Prop :=
  ∀ (s : State) (tag : Nat) (production record arm : Option Nat), s.link.quiet →
    (∀ (d : DestId) (p : Option Prod3) (r m : Option Bool),
      optOf prod3Of production = some p → optOf boolOf record = some r → optOf boolOf arm = some m →
      let old := s.map.attrs.get d
      let new : DestAttr := ⟨p.getD old.production, r.getD old.record, m.getD old.arm⟩
      let i : Instr := .setDest tag d.val production record arm
      let q : Request := .setDest d.val production record arm
      let data := [byteOf d.val, byteOf (prod3Code new.production), bitsByte [new.record, new.arm]]
      let t := { s with map := { s.map with attrs := s.map.attrs.set d new } }
      (new = old → AnswersOnly i s tag q .done data)
      ∧ (new ≠ old →
          exec i s = .next (State.settle
            { t with
              engines := enginesTriggered s.engines t fun x => old.production.includes x || new.production.includes x
              link := s.link.served [] tag q .done data })))
    ∧ (∀ d : DestId, optOf prod3Of production = none ∨ optOf boolOf record = none ∨ optOf boolOf arm = none →
        AnswersOnly (.setDest tag d.val production record arm) s tag (.setDest d.val production record arm) .range
          [byteOf d.val, byteOf (prod3Code (s.map.attrs.get d).production),
            bitsByte [(s.map.attrs.get d).record, (s.map.attrs.get d).arm]])
    ∧ ∀ dest : Nat, 64 ≤ dest → ∃ data,
        AnswersOnly (.setDest tag dest production record arm) s tag (.setDest dest production record arm) .range data

/-- SET_THRESHOLD: each present value is clamped to 1-1024 and written to each production named, an absent one leaves its threshold, and
each production one of whose thresholds changed is triggered; the reply carries the thresholds held. The model's choices in it: log entries
18 and 20. -/
def Obligations.SetThresholdClampsAndWrites : Prop :=
  ∀ (s : State) (tag : Nat) (air preview : Option Nat), s.link.quiet →
    (∀ (production : Nat) (p : Prod3), prod3Of production = some p →
      ∃ t, exec (.setThreshold tag production air preview) s = .next t
        ∧ Keeps [.map, .engines, .link, .fabric, .lamps] s t
        ∧ { t.map with thresholds := s.map.thresholds } = s.map
        ∧ (∀ q, p.includes q = false → t.map.thresholds.get q = s.map.thresholds.get q)
        ∧ (∀ q, p.includes q = true →
            (t.map.thresholds.get q).air = (match air with | some n => max 1 (min n 1024) | none => (s.map.thresholds.get q).air)
            ∧ (t.map.thresholds.get q).preview =
                (match preview with | some n => max 1 (min n 1024) | none => (s.map.thresholds.get q).preview))
        ∧ t.engines = enginesTriggered s.engines t (fun q => decide (t.map.thresholds.get q ≠ s.map.thresholds.get q))
        ∧ t.link = s.link.served [] tag (.setThreshold production air preview) .done
            ((allProds.filter p.includes).flatMap fun q =>
              word16 (t.map.thresholds.get q).air ++ word16 (t.map.thresholds.get q).preview)
        ∧ t.fabric = s.fabric.choose ∧ t.lamps.refused = s.lamps.refused ∧ t.composed)
    ∧ ∀ production : Nat, 3 ≤ production →
        AnswersOnly (.setThreshold tag production air preview) s tag (.setThreshold production air preview) .range []

/-! ## Requests of the panel loops and the roster -/

/-- SET_LOOP: with no change it is answered DONE with no effect; a DISABLED loop takes the values, and enters STARTING where it is enabled;
an enabled loop is restarted by a change of rate or trim, and ends DISABLED with its LOOP notice where it is disabled; either takes every
entry of the loop to EMPTY, with a ROSTER notice of those that were not and all that entry to LOST entails for them: ended talks and listens,
idle and released keys, no selection, and release deadlines on their locks. A trim above 31 is taken as 31, and a fixed rate brings its nominal
bit time. LOOP_RESTART restarts a loop that is not DISABLED, keeping its enrolment position, rate values and counts, and is refused STATE for
a DISABLED one. The model's choices in it: log entries 13, 15, 18 and 20. -/
def Obligations.LoopRequestsEnableRestartDisable : Prop :=
  let leaving (s : State) (l : LoopId) (cause : RosterCause) : List Notice :=
    let items := ((indices 16).filter fun a => (s.entry ⟨l, a⟩).state != .empty).map fun a =>
      (⟨a, (s.entry ⟨l, a⟩).state, .empty, 0, none, none⟩ : RosterItem)
    if items = [] then [] else [.roster l cause items]
  let passed (s t : State) (l : LoopId) (ns : List Notice) : Prop :=
    PanelsFall s t (fun _ => false) (fun p => p.loop == l && (s.entry p).state != .empty) ns
      ∧ ∀ a, t.entry ⟨l, a⟩ = if (s.entry ⟨l, a⟩).state = .empty then s.entry ⟨l, a⟩ else RosterEntry.emptied
  (∀ (s : State) (tag : Nat) (enable rate trim : Option Nat), s.link.quiet →
    (∀ (l : LoopId) (en : Option Bool) (ra : Option RateSetting), optOf boolOf enable = some en → optOf rateOf rate = some ra →
      let x := s.loop l
      let off := decide (x.state = .disabled)
      let on := en.getD (!off)
      let r := ra.getD x.rate
      let code := (trim.map fun n => min n 31).getD x.trim
      let written : Loop := { x with rate := r, nominal := (r.nominal).getD x.nominal, trim := code }
      let cleared : Loop :=
        { written with
          exchange := none, more := none, visited := 0, wanted := .replicate 16 false, holdOff := .replicate 16 false }
      let i : Instr := .setLoop tag l.val enable rate trim
      let q : Request := .setLoop l.val enable rate trim
      let data := fun (y : Loop) =>
        [byteOf l.val, byteOf (if y.state = .disabled then 0 else 1), byteOf (rateCode y.rate)] ++ word16 y.nominal
          ++ byteOf y.trim :: (word16 (workingBitTime y.nominal y.trim) ++ [byteOf (loopStateCode y.state)])
      (on = !off → r = x.rate → code = x.trim → AnswersOnly i s tag q .done (data x))
      ∧ ((on ≠ !off ∨ r ≠ x.rate ∨ code ≠ x.trim) → off = true →
          let y : Loop := if on then { written with state := .starting false none } else written
          exec i s = .next (State.settle { s with loops := s.loops.set l y, link := s.link.served [] tag q .done (data y) }))
      ∧ ((on ≠ !off ∨ r ≠ x.rate ∨ code ≠ x.trim) → off = false →
          let y : Loop := { cleared with state := if on then .starting false none else .disabled }
          ∃ t, exec i s = .next t
            ∧ Keeps [.loops, .roster, .lamps, .talk, .xpt, .gpio, .fabric, .link] s t
            ∧ t.loops = s.loops.set l y
            ∧ (∀ a, (t.entry ⟨l, a⟩).state = .empty) ∧ (∀ p, p.loop ≠ l → t.entry p = s.entry p)
            ∧ t.link.sending = some (Reply.frame ⟨tag, .done, q.kind, data y⟩)
            ∧ ∃ ns, (∀ n ∈ ns, n.kind = .talk ∨ n.kind = .lock) ∧ passed s t l ns
              ∧ t.link = s.link.served
                  (ns ++ leaving s l (if on then .rate else .disable) ++ (if on then [] else [.loop l .disabled])) tag q .done (data y)))
    ∧ (∀ loop : Nat, (4 ≤ loop ∨ optOf boolOf enable = none ∨ optOf rateOf rate = none) →
        AnswersOnly (.setLoop tag loop enable rate trim) s tag (.setLoop loop enable rate trim) .range []))
  ∧ ∀ (s : State) (tag : Nat), s.link.quiet →
    (∀ l : LoopId, (s.loop l).state ≠ .disabled →
      let y : Loop :=
        { s.loop l with
          state := .starting false none, exchange := none, more := none, visited := 0
          wanted := .replicate 16 false, holdOff := .replicate 16 false }
      ∃ t, exec (.loopRestart tag l.val) s = .next t
        ∧ Keeps [.loops, .roster, .lamps, .talk, .xpt, .gpio, .fabric, .link] s t
        ∧ t.loops = s.loops.set l y
        ∧ (∀ a, (t.entry ⟨l, a⟩).state = .empty) ∧ (∀ p, p.loop ≠ l → t.entry p = s.entry p)
        ∧ t.link.sending = some (Reply.frame ⟨tag, .done, 0x17, []⟩)
        ∧ ∃ ns, (∀ n ∈ ns, n.kind = .talk ∨ n.kind = .lock) ∧ passed s t l ns
          ∧ t.link = s.link.served (ns ++ leaving s l .loopRestart) tag (.loopRestart l.val) .done [])
    ∧ (∀ l : LoopId, (s.loop l).state = .disabled → AnswersOnly (.loopRestart tag l.val) s tag (.loopRestart l.val) .state [])
    ∧ ∀ loop : Nat, 4 ≤ loop → AnswersOnly (.loopRestart tag loop) s tag (.loopRestart loop) .range []

/-- SET_KEYMAP: the fields and keys present are written and the rest is left; a changed key's talk or listen ends with KEYMAP, its TALK
state becomes IDLE, its refused-press display goes, and a key of it held down is marked stale-down; a changed panel port ends every talk and
listen of the entry and marks every TALK or LISTEN key held down. The other talks and listens keep all but their resolution. Without a
changed key or port the talk engine and the roster are untouched. The selected destination is always kept. The model's choices in it: log
entries 18, 20 and 21. -/
def Obligations.SetKeymapWritesAssignments : Prop :=
  ∀ (s : State) (tag loop address : Nat) (production port : Option Nat) (keys : List RawKey), s.link.quiet →
    let i : Instr := .setKeymap tag loop address production port keys
    let q : Request := .setKeymap loop address production port keys
    (∀ (p : PanelId) (pr : Option Prod3) (po : Option (Option PortId)) (ks : List (KeyId × KeyAssign)),
      panelOf loop address = some p → optOf prod3Of production = some pr → optOf (optIndexOf 96) port = some po →
      allOf keyAssignOf keys = some ks → (ks.map fun k => k.1).Nodup →
      let old := s.keyMap p
      let new : KeyMapEntry :=
        { production := pr.getD old.production, port := po.getD old.port, keys := ks.foldl (fun t k => t.set k.1 k.2) old.keys
          slots := old.slots }
      let data := byteOf (prod3Code new.production) :: (optIndex new.port
        ++ byteOf ks.length :: ks.flatMap fun k => byteOf k.1.val :: keyAssignBytes (new.keys.get k.1))
      ∃ t, exec i s = .next t
        ∧ Keeps [.keymap, .talk, .roster, .lamps, .gpio, .fabric, .link] s t
        ∧ t.keymap = s.keymap.setP p new
        ∧ t.link.sending = some (Reply.frame ⟨tag, .done, 0x07, data⟩)
        ∧ (∀ p', p' ≠ p → t.entry p' = s.entry p') ∧ { t.entry p with keys := (s.entry p).keys } = s.entry p
        ∧ (∀ k, new.keys.get k ≠ old.keys.get k →
            t.talk.key p k = .idle ∧ (t.lamps.refused.getP p).get k = false
              ∧ ((t.entry p).keys.get k = if ((s.entry p).keys.get k).isDown then .stale else .up)
              ∧ (∀ id, s.talk.talkOf (.panel p k) = some id → t.talk.talks.get id = none)
              ∧ ∀ id, s.talk.listenOf (.panel p k) = some id → t.talk.listens.get id = none)
        ∧ (new.port ≠ old.port →
            (∀ k, t.talk.key p k = .idle)
            ∧ (∀ id r, t.talk.talks.get id = some r → r.origin.ofPanel p = false)
            ∧ ∀ id r, t.talk.listens.get id = some r → r.origin.ofPanel p = false)
        ∧ (let stays (o : TalkOrigin) : Prop :=
             o.ofPanel p = false ∨ (new.port = old.port ∧ ∀ k, new.keys.get k ≠ old.keys.get k → o ≠ .panel p k)
           (∀ id r, s.talk.talks.get id = some r → stays r.origin →
             ∃ res, t.talk.talks.get id = some { r with resolution := res })
           ∧ ∀ id r, s.talk.listens.get id = some r → stays r.origin →
             ∃ res, t.talk.listens.get id = some { r with resolution := res })
        ∧ (∃ ns, (∀ n ∈ ns, n.kind = .talk) ∧ t.link = s.link.served ns tag q .done data
            ∧ (∀ id r, s.talk.talks.get id = some r → t.talk.talks.get id = none →
                ∃ items, .talk false items ∈ ns ∧ r.item id (.ended .keymap) ∈ items)
            ∧ ∀ id r, s.talk.listens.get id = some r → t.talk.listens.get id = none →
                ∃ items, .talk false items ∈ ns ∧ r.item id (.ended .keymap) ∈ items)
        ∧ (∀ k, new.keys.get k = old.keys.get k →
            (t.entry p).keys.get k =
              if new.port ≠ old.port ∧ ((s.entry p).keys.get k).isDown = true ∧ (new.keys.get k).fn.isIntercom = true then .stale
              else (s.entry p).keys.get k)
        ∧ (new.keys = old.keys → new.port = old.port → Keeps [.keymap, .lamps, .fabric, .link] s t ∧ t.fabric = s.fabric.choose)
        ∧ t.composed)
    ∧ ((panelOf loop address = none ∨ optOf prod3Of production = none ∨ optOf (optIndexOf 96) port = none
          ∨ allOf keyAssignOf keys = none ∨ 48 < keys.length ∨ ¬ (keys.map fun k => k.key).Nodup) →
        AnswersOnly i s tag q .range [])

/-- SET_SLOTS: the slots present are written and the others left, and the four slots as then held are answered; an entry or a source out of
range is refused RANGE. The model's choices in it: log entries 18 and 20. -/
def Obligations.SetSlotsWritesPresentSlots : Prop :=
  ∀ (s : State) (tag loop address : Nat) (f0 f1 f2 f3 : Option Nat), s.link.quiet →
    let i : Instr := .setSlots tag loop address f0 f1 f2 f3
    let q : Request := .setSlots loop address f0 f1 f2 f3
    let slot := optOf (optIndexOf 128)
    (∀ (p : PanelId) (a b c d : Option (Option SourceId)), panelOf loop address = some p → slot f0 = some a → slot f1 = some b →
      slot f2 = some c → slot f3 = some d →
      ∃ new : Tbl 4 (Option SourceId),
        new.get 0 = a.getD ((s.keyMap p).slots.get 0) ∧ new.get 1 = b.getD ((s.keyMap p).slots.get 1)
          ∧ new.get 2 = c.getD ((s.keyMap p).slots.get 2) ∧ new.get 3 = d.getD ((s.keyMap p).slots.get 3)
          ∧ exec i s = .next (State.settle
              { s with
                keymap := s.keymap.setP p { s.keyMap p with slots := new }
                link := s.link.served [] tag q .done
                  (optIndex (new.get 0) ++ optIndex (new.get 1) ++ optIndex (new.get 2) ++ optIndex (new.get 3)) }))
    ∧ ((panelOf loop address = none ∨ slot f0 = none ∨ slot f1 = none ∨ slot f2 = none ∨ slot f3 = none) →
        AnswersOnly i s tag q .range [])

/-! ## Requests of the talk engine -/

/-- SET_GROUP: a new list of at most 24 different ports is written, and the group's talks and listens are resolved again: each stays, with the
resolution of its placements, and stands nowhere where it has left; a listener that one of them alone reaches is left, kept, placed at and
joined by R144's passes, and one that none reaches is unchanged. Every record of another target keeps all but its resolution, and each
changed image goes to the fabric line. The list held is answered DONE with no effect; anything else is refused RANGE and changes nothing. The model's
choices in it: log entries 18, 20 and 21. -/
def Obligations.SetGroupWritesMembers : Prop :=
  ∀ (s : State) (tag : Nat), s.link.quiet →
    (∀ (g : GroupId) (ms : List PortId), ms.length ≤ 24 → ms.Nodup →
      let i : Instr := .setGroup tag g.val (ms.map fun p => p.val)
      let q : Request := .setGroup g.val (ms.map fun p => p.val)
      let data := byteOf g.val :: byteOf ms.length :: ms.map fun p => byteOf p.val
      (s.talk.groups.get g = ms → AnswersOnly i s tag q .done data)
      ∧ (s.talk.groups.get g ≠ ms → ∃ t, exec i s = .next t
          ∧ Keeps [.talk, .gpio, .fabric, .lamps, .link] s t
          ∧ t.talk.groups = s.talk.groups.set g ms ∧ t.talk.circuits = s.talk.circuits ∧ t.talk.keys = s.talk.keys
          ∧ t.talk.latchWindow = s.talk.latchWindow ∧ t.talk.colours = s.talk.colours
          ∧ (∀ id, (t.talk.talks.get id).map (fun r => (r.talker, r.target, r.origin, r.priority)) =
              (s.talk.talks.get id).map fun r => (r.talker, r.target, r.origin, r.priority))
          ∧ (s.talk.listsWf → OthersKept s t (.group g) ∧ ResolvedAgain s t (.group g)
              ∧ (∀ p, (∀ c, ¬ Reaches s t (.group g) p c) → t.talk.listeners.get p = s.talk.listeners.get p)
              ∧ (∀ p id r r', s.talk.talks.get id = some r → t.talk.talks.get id = some r' → r.target = .group g →
                  (∀ c, Reaches s t (.group g) p c → c = .talk id) → TalkMoved s t id r r' p)
              ∧ ∀ id r r', s.talk.listens.get id = some r → t.talk.listens.get id = some r' → r.target = .group g →
                  (∀ c, Reaches s t (.group g) r.listener c → c = .listen id) → ListenMoved s t id r r')
          ∧ (∀ id r, t.talk.talks.get id = some r → r.target = .group g →
              r.listeners = (indices 96).filter fun p => ms.contains p && p != r.talker)
          ∧ (∀ id r, t.talk.listens.get id = some r → r.target = .group g → r.talkers = ms.filter (· != r.listener))
          ∧ ImagesQueued s t
          ∧ t.link.sending = some (Reply.frame ⟨tag, .done, q.kind, data⟩)))
    ∧ ∀ (group : Nat) (members : List Nat),
        (16 ≤ group ∨ 24 < members.length ∨ ¬ members.Nodup ∨ ∃ m ∈ members, 96 ≤ m) →
        AnswersOnly (.setGroup tag group members) s tag (.setGroup group members) .range []

/-- SET_IFB: a circuit is written with its dim depth taken as at most 30; the circuit held is answered DONE with no effect; a talent that is
the program port, or a value out of range, is refused RANGE, a pair another circuit holds STATE (also where the list is full: log entry 21),
and a talent whose list, with the circuit's old PROGRAM cause taken out, would hold 8 entries none of which is the program port's FULL. The
circuit's talks stay and are resolved again; every other record keeps all but its resolution. A configured circuit's PROGRAM cause stands in its talent's list, the dim flags of the old talent and the new follow their talks, and changed
images go to the fabric line. The model's choices in it: log entries 12, 18, 20 and 21. -/
def Obligations.SetIfbConfiguresTheCircuit : Prop :=
  ∀ (s : State) (tag dim : Nat), s.link.quiet →
    (∀ (c : CircuitId) (talent : Nat) (n : Option PortId) (m : PortId), optIndexOf 96 talent = some n → n ≠ some m →
      let i : Instr := .setIfb tag c.val talent m.val dim
      let q : Request := .setIfb c.val talent m.val dim
      let x : Circuit := ⟨n, m, ⟨min dim 30, by omega⟩⟩
      let data := byteOf c.val :: (optIndex n ++ [byteOf m.val, byteOf (min dim 30)])
      let old := s.talk.circuits.get c
      let taken : Prop := ∃ y j, n = some y ∧ j ≠ c ∧ (s.talk.circuits.get j).talent = some y ∧ (s.talk.circuits.get j).program = m
      let full : Prop := ∃ y, n = some y ∧
        let l := s.talk.listeners.get y
        let es := if old.talent = some y then l.without old.program (.program c) else l.talkers
        8 ≤ es.length ∧ ∀ e ∈ es, e.talker ≠ m
      (taken → s.talk.ifbRefusal c x = some .state)
      ∧ (¬ taken → full → s.talk.ifbRefusal c x = some .full)
      ∧ (¬ taken → ¬ full → s.talk.ifbRefusal c x = none)
      ∧ (∀ r, s.talk.ifbRefusal c x = some r → AnswersOnly i s tag q r [])
      ∧ (s.talk.ifbRefusal c x = none → s.talk.circuits.get c = x → AnswersOnly i s tag q .done data)
      ∧ (s.talk.ifbRefusal c x = none → s.talk.circuits.get c ≠ x → s.talk.listsWf → s.talk.programsStand →
          ∃ t, exec i s = .next t
            ∧ Keeps [.talk, .gpio, .fabric, .lamps, .link] s t
            ∧ t.talk.circuits = s.talk.circuits.set c x ∧ t.talk.groups = s.talk.groups ∧ t.talk.keys = s.talk.keys
            ∧ t.talk.programsStand
            ∧ OthersKept s t (.ifb c) ∧ ResolvedAgain s t (.ifb c)
            ∧ (∀ p, n ≠ some p → old.talent ≠ some p → (∀ k, ¬ Reaches s t (.ifb c) p k) →
                t.talk.listeners.get p = s.talk.listeners.get p)
            ∧ (∀ x, n = some x ∨ (s.talk.circuits.get c).talent = some x → (t.talk.listeners.get x).dimsFollow t.talk.talks)
            ∧ ImagesQueued s t
            ∧ (∀ id r, t.talk.talks.get id = some r → r.target = .ifb c → r.listeners = n.toList.filter (· != r.talker))
            ∧ t.link.sending = some (Reply.frame ⟨tag, .done, q.kind, data⟩)))
    ∧ (∀ (talent : PortId) (circuit : CircuitId),
        AnswersOnly (.setIfb tag circuit.val talent.val talent.val dim) s tag (.setIfb circuit.val talent.val talent.val dim) .range [])
    ∧ ∀ circuit talent program : Nat, (16 ≤ circuit ∨ optIndexOf 96 talent = none ∨ 96 ≤ program) →
        AnswersOnly (.setIfb tag circuit talent program dim) s tag (.setIfb circuit talent program dim) .range []

/-- TALK: ON creates a LINK talk (with priority) or a LINK listen under the lowest free number, resolved and placed, and answers its number;
one that exists already is answered DONE with no effect; a full table is refused FULL, a circuit without a talent ABSENT (also where the
table is full: log entry 21), one's own port RANGE. OFF ends the one that exists, and is refused ABSENT where there is none. A talk is placed
at each of its listeners by the five steps, displacing the newest unprotected entry where the list is full; its end takes its cause out of
each and promotes the front of the wait list into a freed place. A listen is placed at its listener for each of its talkers in turn, and at
its end its waiting causes leave first, then those in the talker list, with each promotion. The dim flags there follow, the records moved are reassessed, and changed
images go to the fabric line. The model's choices in it: log entries 11, 12, 18 and 21. -/
def Obligations.TalkRequestCreatesAndEnds : Prop :=
  (∀ (s : State) (tag path action port : Nat) (raw : RawTarget), s.link.quiet →
    let target := if path = 1 then listenTargetOf raw else targetOf raw
    (96 ≤ port ∨ 2 ≤ path ∨ 2 ≤ action ∨ target = none
      ∨ ∃ (n : PortId) (g : Target), port = n.val ∧ target = some g ∧ (g = .port n ∨ s.talk.talentIs g n = true)) →
    AnswersOnly (.talk tag path action port raw) s tag (.talk path action port raw) .range [])
  ∧ ∀ (s : State) (tag : Nat) (n : PortId) (raw : RawTarget) (g : Target), s.link.quiet → g ≠ .port n → s.talk.talentIs g n = false →
    (targetOf raw = some g →
      let on : Instr := .talk tag 0 1 n.val raw
      let off : Instr := .talk tag 0 0 n.val raw
      (∀ id, s.talk.linkTalk n g = some id →
        AnswersOnly on s tag (.talk 0 1 n.val raw) .done (s.talkData id)
          ∧ ∃ t, exec off s = .next t ∧ Keeps [.talk, .gpio, .fabric, .lamps, .link] s t ∧ t.talk.talks.get id = none
              ∧ ImagesQueued s t ∧ (s.talk.listsWf → ∀ r, s.talk.talks.get id = some r → TalkRemoved s t id r)
              ∧ t.link.sending = some (Reply.frame ⟨tag, .done, 0x12, [byteOf id.val]⟩))
      ∧ (s.talk.linkTalk n g = none →
          AnswersOnly off s tag (.talk 0 0 n.val raw) .absent []
          ∧ (s.talk.noTalent g = true → AnswersOnly on s tag (.talk 0 1 n.val raw) .absent [])
          ∧ (s.talk.noTalent g = false → s.talk.freeTalk = none → AnswersOnly on s tag (.talk 0 1 n.val raw) .full [])
          ∧ (∀ id, s.talk.noTalent g = false → s.talk.freeTalk = some id →
              ∃ t, exec on s = .next t ∧ Keeps [.talk, .gpio, .fabric, .lamps, .link] s t
                ∧ (∃ r, t.talk.talks.get id = some r ∧ r.talker = n ∧ r.target = g ∧ r.origin = .link ∧ r.priority = true
                    ∧ r.listeners = s.talkWork.resolve n g ∧ r.resolution = resolutionOf (t.talk.talkPlacements id r)
                    ∧ (s.talk.listsWf → TalkPlaced s t id r))
                ∧ ImagesQueued s t
                ∧ t.link.sending = some (Reply.frame ⟨tag, .done, 0x12, t.talkData id⟩))))
    ∧ (listenTargetOf raw = some g →
      let on : Instr := .talk tag 1 1 n.val raw
      let off : Instr := .talk tag 1 0 n.val raw
      (∀ id, s.talk.linkListen n g = some id →
        AnswersOnly on s tag (.talk 1 1 n.val raw) .done (s.listenData id)
          ∧ ∃ t, exec off s = .next t ∧ Keeps [.talk, .gpio, .fabric, .lamps, .link] s t ∧ t.talk.listens.get id = none
              ∧ ImagesQueued s t ∧ OthersReassessed s t (.listen id)
              ∧ (s.talk.listsWf → ∀ r, s.talk.listens.get id = some r → ListenRemoved s t id r)
              ∧ t.link.sending = some (Reply.frame ⟨tag, .done, 0x12, [byteOf id.val]⟩))
      ∧ (s.talk.linkListen n g = none →
          AnswersOnly off s tag (.talk 1 0 n.val raw) .absent []
          ∧ (s.talk.freeListen = none → AnswersOnly on s tag (.talk 1 1 n.val raw) .full [])
          ∧ (∀ id, s.talk.freeListen = some id →
              ∃ t, exec on s = .next t ∧ Keeps [.talk, .gpio, .fabric, .lamps, .link] s t
                ∧ (∃ r, t.talk.listens.get id = some r ∧ r.listener = n ∧ r.target = g ∧ r.origin = .link
                    ∧ r.talkers = s.talkWork.resolveListen n g ∧ r.resolution = resolutionOf (t.talk.listenPlacements id r)
                    ∧ (s.talk.listsWf → ListenPlaced s t id r))
                ∧ ImagesQueued s t ∧ OthersReassessed s t (.listen id)
                ∧ (∀ p, p ≠ n → t.talk.listeners.get p = s.talk.listeners.get p)
                ∧ (∀ x, g = .port x → (t.talk.listeners.get n).dimsFollow t.talk.talks
                    ∧ PlacedAt t.talk.talks (s.talk.listeners.get n) (t.talk.listeners.get n) x (.listen id) false)
                ∧ t.link.sending = some (Reply.frame ⟨tag, .done, 0x12, t.listenData id⟩))))

/-! ## Requests of the GPIO unit, and plain settings -/

/-- SET_GPI: a present debounce time is written as at most 255, a present mapping replaces the one held, and levels and timer are kept;
where the mapping changes, an active input that forced RED before or forces it now triggers its productions, the talk of a mapping that was
TALK ends, and an active input whose new mapping is TALK creates its talk or has it refused. FORCE_RED to a UTILITY source is refused CLASS,
anything out of range RANGE. That an invalid target is refused TARGET also where the talk table is full is the model's choice (log entry 21:
R152 gives its two grounds no precedence). The model's choices in it: log entries 18, 20 and 21. -/
def Obligations.SetGpiWritesMappingAndTime : Prop :=
  ∀ (s : State) (tag : Nat) (mapping : Option RawGpiMap) (debounce : Option Nat), s.link.quiet →
    (∀ (n : GpiId) (m : Option GpiMap), optOf gpiMapOf mapping = some m →
      let i : Instr := .setGpi tag n.val mapping debounce
      let q : Request := .setGpi n.val mapping debounce
      let g := s.gpi n
      let new : Gpi := { g with time := (debounce.map fun x => min x 255).getD g.time, mapping := m.getD g.mapping }
      let data := byteOf n.val ::
        (gpiMapBytes new.mapping ++ word16 new.time ++ [byteOf (if g.raw then 0 else 1), byteOf (if g.level then 0 else 1)])
      let old : Option TalkId := if g.mapping.isTalk then s.talk.talkOf (.gpi n) else none
      let free (id : TalkId) : Prop := s.talk.talks.get id = none ∨ old = some id
      ((∃ x p, m = some (.forceRed x p) ∧ s.map.classAt x = .utility) → AnswersOnly i s tag q .classed [])
      ∧ ((∀ x p, m = some (.forceRed x p) → s.map.classAt x ≠ .utility) →
          (new.mapping = g.mapping ∨ (new.mapping.isTalk = false ∧ g.mapping.isTalk = false) →
            let u := { s with gpio := { s.gpio with inputs := s.gpio.inputs.set n new } }
            exec i s = .next (State.settle
              { u with
                engines := if new.mapping = g.mapping then s.engines
                  else enginesTriggered s.engines u fun p => g.level && (g.mapping.reds p || new.mapping.reds p)
                link := s.link.served [] tag q .done data }))
          ∧ ∃ t, exec i s = .next t
            ∧ Keeps [.gpio, .talk, .engines, .fabric, .lamps, .link] s t
            ∧ t.gpio.inputs = s.gpio.inputs.set n new
            ∧ t.engines = (if new.mapping = g.mapping then s.engines
                else enginesTriggered s.engines t fun p => g.level && (g.mapping.reds p || new.mapping.reds p))
            ∧ t.link.sending = some (Reply.frame ⟨tag, .done, 0x0C, data⟩)
            ∧ (new.mapping ≠ g.mapping →
                ∃ ns, (∀ x ∈ ns, x.kind = .talk) ∧ t.link = s.link.served ns tag q .done data
                  ∧ let tells (item : TalkItem) : Prop := ∃ items, .talk false items ∈ ns ∧ item ∈ items
                    (∀ id r, old = some id → s.talk.talks.get id = some r →
                      tells (r.item id (.ended .keymap))
                        ∧ (g.level = false ∨ new.mapping.isTalk = false → t.talk.talks.get id = none))
                    ∧ ∀ talker target, new.mapping = .talk talker target → g.level = true →
                        let refused (why : RefuseReason) : Prop :=
                          tells ⟨false, none, .gpi n, some talker, target, .refused why⟩
                            ∧ (∀ id, old = some id → t.talk.talks.get id = none) ∧ (old = none → t.talk = s.talk)
                        (s.talk.invalidTarget talker target = true → refused .target)
                        ∧ (s.talk.invalidTarget talker target = false → (∀ id, ¬ free id) → refused .full)
                        ∧ ∀ id, s.talk.invalidTarget talker target = false → free id → (∀ j, j < id → ¬ free j) →
                            ∃ r, t.talk.talks.get id = some r ∧ r.talker = talker ∧ r.target = target ∧ r.origin = .gpi n
                              ∧ r.priority = false ∧ tells (r.item id (.created r.resolution)))))
    ∧ ∀ input : Nat, (16 ≤ input ∨ optOf gpiMapOf mapping = none) →
        AnswersOnly (.setGpi tag input mapping debounce) s tag (.setGpi input mapping debounce) .range []

/-- SET_GPO: a new mapping is written and its output takes at once the level its condition gives in the GPIO unit's copies: inactive for
NONE; for TALLY whether the source's colour in the view is in the colour set; for TALKING whether the port is among the talking ports; for
FAULT whether a destination or a card is in the unit's sets; for FREE_RUN the frame condition. The mapping held is answered DONE with no
effect, and anything out of range is refused RANGE. The model's choices in it: log entries 18 and 20. -/
def Obligations.SetGpoMapsAndEvaluates : Prop :=
  ∀ (s : State) (tag : Nat) (mapping : RawGpoMap), s.link.quiet →
    (∀ (o : GpoId) (m : GpoMap), gpoMapOf mapping = some m →
      let i : Instr := .setGpo tag o.val mapping
      let q : Request := .setGpo o.val mapping
      let data := fun (level : Bool) => byteOf o.val :: (gpoMapBytes m ++ [byteOf (if level then 0 else 1)])
      let within (c : Colour) (cs : ColourSet) : Prop :=
        match c with
        | .none => cs.none = true
        | .red => cs.red = true
        | .green => cs.green = true
        | .amber => cs.amber = true
      ((s.gpio.outputs.get o).mapping = m → AnswersOnly i s tag q .done (data (s.gpio.outputs.get o).active))
      ∧ ((s.gpio.outputs.get o).mapping ≠ m →
          exec i s = .next (State.settle
            { s with
              gpio := { s.gpio with outputs := s.gpio.outputs.set o ⟨m, s.gpio.holds m⟩ }
              link := s.link.served [] tag q .done (data (s.gpio.holds m)) })
          ∧ (s.gpio.holds m = true ↔
              match m with
              | .unmapped => False
              | .tally y cs .a => within (s.gpio.colours.a.get y) cs
              | .tally y cs .b => within (s.gpio.colours.b.get y) cs
              | .tally y cs .both => within (s.gpio.combined.get y) cs
              | .talking p => s.gpio.talking.get p = true
              | .fault => (∃ d, s.gpio.faulted.get d = true) ∨ ∃ c, s.gpio.absent.get c = true
              | .freeRun => s.gpio.freeRun = true)))
    ∧ ∀ output : Nat, (16 ≤ output ∨ gpoMapOf mapping = none) →
        AnswersOnly (.setGpo tag output mapping) s tag (.setGpo output mapping) .range []

/-- SET_LATCH: the latch window is the value clamped to 100-1000 and rounded down to a multiple of 50, answered DONE as held; latch timers
that run keep their expiry. SET_FILTER: a set of the thirteen kinds is written as the filter and answered with GAP shown as passing, and
any other set is refused RANGE; the notices already queued stay, and are sent whatever the filter; and a notice raised passes where the filter then held names its kind, a GAP
notice and a TALK notice of LINK records always. -/
def Obligations.PlainSettingsAreWritten : Prop :=
  (∀ (s : State) (tag window : Nat), s.link.quiet →
      exec (.setLatch tag window) s = .next (State.settle
        { s with
          talk := { s.talk with latchWindow := (if window < 100 then 100 else if 1000 < window then 1000 else window) / 50 * 50 }
          link := s.link.served [] tag (.setLatch window) .done
            (word16 ((if window < 100 then 100 else if 1000 < window then 1000 else window) / 50 * 50)) }))
  ∧ ∀ (s : State) (tag : Nat) (kinds : BitVec 16), s.link.quiet →
    ((∀ k, 13 ≤ k → kinds.getLsbD k = false) →
      exec (.setFilter tag kinds) s = .next (State.settle
        { s with
          link := { s.link with
            filter := kinds
            sending := some (Reply.frame ⟨tag, .done, 0x0E,
              [(kinds ||| 0x1000#16).extractLsb' 8 8, (kinds ||| 0x1000#16).extractLsb' 0 8]⟩) } }))
    ∧ ((∃ k, 13 ≤ k ∧ kinds.getLsbD k = true) → AnswersOnly (.setFilter tag kinds) s tag (.setFilter kinds) .range [])
    ∧ ∀ (l : Link) (n : Notice), l.filter = kinds →
        let passes : Prop := kinds.getLsbD n.kind.code = true ∨ n.kind = .gap ∨ ∃ items, n = .talk true items
        (passes → l.notify n = (l.offer n).choose) ∧ (¬ passes → l.notify n = l)
    ∧ ∀ q qs, s.link.filter = kinds → s.link.notices = q :: qs →
        let busy : State := { s with link := { s.link with sending := some ⟨0x40, tag, []⟩, continuation := none } }
        ∃ t f, exec .clTransmitComplete busy = .next t ∧ t.link.sending = some f ∧ f.kind = q.notice.kindByte ∧ f.tag = q.number

/-! ## Requests of the crosspoint controller and the salvo store -/

/-- TAKE: accepted, it joins the end of the take list, or replaces its destination's entry in place, the old one going to the superseded
list; a RETURN source for a routed destination is refused CLASS, a lock of another owner LOCKED with the owner unless the take is forced,
and a value out of range RANGE. The model's choices in it: log entry 18. -/
def Obligations.TakeEntersTheTakeList : Prop :=
  ∀ (s : State) (tag source : Nat) (forced : Bool), s.link.quiet →
    (∀ (d : DestId) (f : Feed), feedOf source = some f →
      let i : Instr := .take tag d.val source forced
      let q : Request := .take d.val source forced
      let e : TakeEntry := ⟨d, f, .link, forced⟩
      let wrong := s.map.breaksReturn f d
      let accepted := byteOf d.val :: optIndex f
      (wrong = true → AnswersOnly i s tag q .classed [byteOf d.val])
      ∧ (∀ k, wrong = false → (s.dest d).lock = some k → k.owner ≠ .link → forced = false →
          AnswersOnly i s tag q .locked (byteOf d.val :: identityBytes k.owner))
      ∧ (wrong = false → (∀ k, (s.dest d).lock = some k → k.owner = .link ∨ forced = true) →
          ((∀ x ∈ s.xpt.takes, x.dest ≠ d) →
            exec i s = .next (State.settle
              { s with xpt := { s.xpt with takes := s.xpt.takes ++ [e] }, link := s.link.served [] tag q .accepted accepted }))
          ∧ (∀ old ∈ s.xpt.takes, old.dest = d → s.xpt.listWf →
            exec i s = .next (State.settle
              { s with
                xpt := { s.xpt with
                  takes := s.xpt.takes.map fun x => if x.dest = d then e else x
                  superseded := supersede s.xpt.superseded old }
                link := s.link.served [] tag q .accepted accepted }))))
    ∧ ∀ dest : Nat, (64 ≤ dest ∨ feedOf source = none) →
        AnswersOnly (.take tag dest source forced) s tag (.take dest source forced) .range [byteOf dest]

/-- LOCK takes a free lock for LINK without a deadline, with its notice; UNLOCK removes LINK's lock, or under the forced flag a panel's, with
its notice. What holds already is answered DONE with no change, a panel's lock LOCKED with its owner, a destination out of range RANGE.
That an UNLOCK refused with LOCKED carries the owner is the model's choice (log entry 20: R33 names that body for LOCK alone). The model's
choices in it: log entries 18 and 20. -/
def Obligations.LockAndUnlock : Prop :=
  ∀ (s : State) (tag : Nat), s.link.quiet →
    (∀ d : DestId,
      let lock : Instr := .lock tag d.val
      let holding (k : Option Lock) : State := { s with xpt := { s.xpt with dests := s.xpt.dests.set d { s.dest d with lock := k } } }
      ((s.dest d).lock = none →
        exec lock s = .next (State.settle
          { holding (some ⟨.link, none⟩) with link := s.link.served [.lock .acquired .link [d]] tag (.lock d.val) .done [] })
        ∧ ∀ forced, AnswersOnly (.unlock tag d.val forced) s tag (.unlock d.val forced) .done [])
      ∧ (∀ k, (s.dest d).lock = some k →
          (k.owner = .link →
            AnswersOnly lock s tag (.lock d.val) .done []
            ∧ ∀ forced, exec (.unlock tag d.val forced) s = .next (State.settle
                { holding none with link := s.link.served [.lock .released .link [d]] tag (.unlock d.val forced) .done [] }))
          ∧ (k.owner ≠ .link →
            AnswersOnly lock s tag (.lock d.val) .locked (identityBytes k.owner)
            ∧ AnswersOnly (.unlock tag d.val false) s tag (.unlock d.val false) .locked (identityBytes k.owner)
            ∧ exec (.unlock tag d.val true) s = .next (State.settle
                { holding none with link := s.link.served [.lock .forced k.owner [d]] tag (.unlock d.val true) .done [] }))))
    ∧ ∀ dest : Nat, 64 ≤ dest →
        (∃ data, AnswersOnly (.lock tag dest) s tag (.lock dest) .range data)
        ∧ ∀ forced, ∃ data, AnswersOnly (.unlock tag dest forced) s tag (.unlock dest forced) .range data

/-- SALVO_WRITE, SALVO_ERASE and SALVO_BOOT: an IDLE store accepts and starts the operation, its target marked, attempt 1, with the
request's tag; a store that is STARTING or OPERATING refuses BUSY; an EMPTY page to erase, and the boot salvo a VALID header names already,
are answered DONE with no operation; out of range is refused RANGE. The list a write forms gives each destination the source it was last
given. That what is out of range is refused RANGE also while the store is STARTING or OPERATING is the model's choice (log entry 21: R178 to
R181 give RANGE and BUSY no order). The model's choices in it: log entries 18, 20 and 21. -/
def Obligations.SalvoRequestsStartOperations : Prop :=
  (∀ (s : State) (tag : Nat), s.link.quiet →
    let starts (i : Instr) (q : Request) (job : StoreJob) (pages : Tbl 48 Page) (header : BootHeader) (data : List Byte) : Prop :=
      exec i s = .next (State.settle
        { s with
          store := { s.store with state := .operating job false tag, pages := pages, header := header }
          link := s.link.served [] tag q .accepted data })
    let marked (n : SalvoId) : Tbl 48 Page := s.store.pages.set n { s.store.pages.get n with mark := true }
    (∀ (n : SalvoId) (es : List RawEntry) (xs : List SalvoEntry), allOf salvoEntryOf es = some xs → xs.length ≤ 32 →
      (s.store.state ≠ .idle → AnswersOnly (.salvoWrite tag n.val es) s tag (.salvoWrite n.val es) .busy [])
      ∧ (s.store.state = .idle →
          starts (.salvoWrite tag n.val es) (.salvoWrite n.val es) (.write n (formEntries xs)) (marked n) s.store.header
            (byteOf n.val :: byteOf (formEntries xs).length :: (formEntries xs).flatMap salvoEntryBytes)))
    ∧ (∀ n : SalvoId,
        (s.store.state ≠ .idle → AnswersOnly (.salvoErase tag n.val) s tag (.salvoErase n.val) .busy [])
        ∧ (s.store.state = .idle → (s.store.pages.get n).state = .empty →
            AnswersOnly (.salvoErase tag n.val) s tag (.salvoErase n.val) .done [])
        ∧ (s.store.state = .idle → (s.store.pages.get n).state ≠ .empty →
            starts (.salvoErase tag n.val) (.salvoErase n.val) (.erase n) (marked n) s.store.header []))
    ∧ (∀ (page : Nat) (v : Option SalvoId), optIndexOf 48 page = some v →
        (s.store.state ≠ .idle → AnswersOnly (.salvoBoot tag page) s tag (.salvoBoot page) .busy [])
        ∧ (s.store.state = .idle → s.store.header.bad = false → s.store.header.boot = v →
            AnswersOnly (.salvoBoot tag page) s tag (.salvoBoot page) .done [])
        ∧ (s.store.state = .idle → s.store.header.bad = true ∨ s.store.header.boot ≠ v →
            starts (.salvoBoot tag page) (.salvoBoot page) (.boot v) s.store.pages { s.store.header with mark := true } []))
    ∧ (∀ (page : Nat) (es : List RawEntry), 48 ≤ page ∨ 32 < es.length ∨ allOf salvoEntryOf es = none →
        AnswersOnly (.salvoWrite tag page es) s tag (.salvoWrite page es) .range [])
    ∧ (∀ page : Nat, 48 ≤ page → AnswersOnly (.salvoErase tag page) s tag (.salvoErase page) .range [])
    ∧ ∀ page : Nat, 48 ≤ page → page ≠ 255 → AnswersOnly (.salvoBoot tag page) s tag (.salvoBoot page) .range [])
  ∧ ∀ (xs : List SalvoEntry) (d : DestId),
      ((formEntries xs).find? fun e => e.dest == d) = xs.reverse.find? fun e => e.dest == d

/-- SALVO_RECALL: a page is refused BUSY while it is programmed or the store starts, ABSENT while EMPTY, STATE while BAD, and RANGE above
47. Otherwise each entry that passes the take checks is entered with recaller LINK, the others are listed in the reply in stored order, and
the counts are answered. That a page above 47 is refused RANGE also while the store is STARTING is the model's choice (log entry 21: R181 and
R182 give no order). The model's choices in it: log entries 18, 20 and 21. -/
def Obligations.SalvoRecallHandsTheGroup : Prop :=
  ∀ (s : State) (tag : Nat), s.link.quiet →
    (∀ n : SalvoId,
      let i : Instr := .salvoRecall tag n.val
      let q : Request := .salvoRecall n.val
      let page := s.store.pages.get n
      let o : TakeOrigin := .salvo n .link
      let barred (e : SalvoEntry) : Option Result :=
        if s.map.breaksReturn e.source e.dest then some .classed
        else if lockBars (s.dest e.dest).lock .link false then some .locked else none
      let rs := page.entries.filterMap fun e => (barred e).map fun r => RefusedEntry.mk e r
      (s.store.busyFor n = true → AnswersOnly i s tag q .busy [])
      ∧ (s.store.busyFor n = false → page.state = .empty → AnswersOnly i s tag q .absent [])
      ∧ (s.store.busyFor n = false → page.state = .bad → AnswersOnly i s tag q .state [])
      ∧ (s.store.busyFor n = false → page.state = .valid → ∃ t, exec i s = .next t
          ∧ Keeps [.xpt, .fabric, .lamps, .link] s t
          ∧ { t.xpt with takes := s.xpt.takes, superseded := s.xpt.superseded } = s.xpt
          ∧ (page.wf → ∀ e ∈ page.entries, barred e = none → t.xpt.takeFor e.dest = some ⟨e.dest, e.source, o, false⟩)
          ∧ (page.wf → ∀ d, (∀ e ∈ page.entries, e.dest = d → barred e ≠ none) → t.xpt.takeFor d = s.xpt.takeFor d)
          ∧ t.link = s.link.served [] tag q .accepted
              ([byteOf n.val, byteOf page.entries.length, byteOf (page.entries.length - rs.length), byteOf rs.length]
                ++ rs.flatMap fun r => salvoEntryBytes r.entry ++ [byteOf (resultCode r.result)])
          ∧ t.fabric = s.fabric.choose ∧ t.lamps.refused = s.lamps.refused))
    ∧ ∀ page : Nat, 48 ≤ page → AnswersOnly (.salvoRecall tag page) s tag (.salvoRecall page) .range []

/-! ## RESTART, reads, and the request queue -/

/-- RESTART, on a link with nothing before it, or from the head of the queue when the reply slot empties: the reply, with the requests behind
it and the number of notices, is begun or fills the slot; both queues are emptied and the GAP flag, the dropped count and the dropped kinds
cleared, the requests behind going unserved; every talk and listen ends, only those of active GPIs being created anew; every lock and take
goes, expected sources and states staying; every panel entry becomes EMPTY and every loop that is not DISABLED starts again; both engines
are triggered; and the ASET of every port of a PRESENT audio card is queued with its image as it now stands. The notices raised are a TAKEN
notice of both lists, a LOCK notice of every lock, those of the talks, and a ROSTER notice for each loop. Configuration, mixer tables, salvo
pages and the key maps are kept. The model's choices in it: log entries 13 and 19. -/
def Obligations.RestartEmptiesTheDevice : Prop :=
  ∀ (s : State) (tag : Nat) (i : Instr) (behind : List Queued) (link : Link),
    let l := s.link
    let emptied : Link :=
      { l with requests := [], notices := [], continuation := none, gapFlag := false, dropped := 0, droppedKinds := 0 }
    let reply : Reply :=
      ⟨tag, .done, 0x18, byteOf behind.length :: (behind.flatMap fun q => [byteOf q.tag, byteOf q.request.kind]) ++ [byteOf l.notices.length]⟩
    ((i = .restart tag ∧ l.quiet ∧ behind = [] ∧ link = { emptied with sending := some reply.frame })
      ∨ (i = .clTransmitComplete ∧ l.sending.isSome = true ∧ l.requests = ⟨tag, .restart⟩ :: behind
          ∧ ∃ r rs, l.replies = r :: rs ∧ (∀ x ∈ rs, x.slot = false)
            ∧ link = { emptied with sending := some r.reply.frame, replies := rs ++ [⟨true, reply⟩] })) →
    ∃ t, exec i s = .next t
      ∧ Keeps [.xpt, .fabric, .engines, .loops, .roster, .lamps, .talk, .gpio, .link] s t
      ∧ t.link.sending = link.sending ∧ t.link.replies = link.replies
      ∧ t.link.requests = [] ∧ t.link.filter = s.link.filter ∧ t.link.rx = s.link.rx ∧ t.link.counts = s.link.counts
      ∧ (let items : List TakenItem :=
           s.xpt.takes.map (fun e => ⟨e.dest.val, .superseded, e.source, e.origin, 0⟩)
             ++ s.xpt.superseded.map fun x => ⟨x.dest.val, .superseded, x.source, x.origin, x.count⟩
         let locks : List (DestId × Identity) := (indices 64).filterMap fun d => (s.dest d).lock.map fun k => (d, k.owner)
         let left (k : LoopId) : List RosterItem :=
           ((indices 16).filter fun a => (s.entry ⟨k, a⟩).state != .empty).map fun a => ⟨a, (s.entry ⟨k, a⟩).state, .empty, 0, none, none⟩
         let taken : List Notice := if items = [] then [] else [.taken .restart items]
         let cleared : List Notice := if locks = [] then [] else [.locksCleared locks]
         let rosters : List Notice := (indices 4).flatMap fun k => if left k = [] then [] else [.roster k .restart (left k)]
         ∃ talks : List Notice, (∀ n ∈ talks, n.kind = .talk)
           ∧ t.link = (taken ++ cleared ++ talks ++ rosters).foldl Link.notify link)
      ∧ t.xpt.takes = [] ∧ t.xpt.superseded = [] ∧ (∀ d, t.dest d = { s.dest d with lock := none })
      ∧ t.xpt.watcher = s.xpt.watcher ∧ t.xpt.adopted = s.xpt.adopted
      ∧ (∀ id r, t.talk.talks.get id = some r → ∃ n, r.origin = .gpi n ∧ (s.gpi n).level = true)
      ∧ (∀ id, t.talk.listens.get id = none) ∧ (∀ p k, t.talk.key p k = .idle)
      ∧ t.talk.groups = s.talk.groups ∧ t.talk.circuits = s.talk.circuits ∧ t.talk.latchWindow = s.talk.latchWindow
      ∧ (∀ p, (t.entry p).state = .empty)
      ∧ (∀ p, t.entry p = if (s.entry p).state = .empty then s.entry p else RosterEntry.emptied)
      ∧ (∀ l, t.loop l =
          { s.loop l with
            state := if (s.loop l).state = .disabled then .disabled else .starting false none
            exchange := if (s.loop l).state = .disabled then (s.loop l).exchange else none
            more := if (s.loop l).state = .disabled then (s.loop l).more else none
            visited := if (s.loop l).state = .disabled then (s.loop l).visited else 0
            wanted := (t.loop l).wanted, holdOff := (t.loop l).holdOff })
      ∧ t.gpio.inputs = s.gpio.inputs
      ∧ t.engines = enginesTriggered s.engines t (fun _ => true)
      ∧ ∃ f : Fabric, t.fabric = f.choose ∧ { f with audio := s.fabric.audio } = s.fabric
          ∧ (∀ p, (s.card (audioCard p)).presence = .present → ⟨p, t.talk.image p⟩ ∈ f.audio)
          ∧ ∀ r ∈ f.audio, if (s.card (audioCard r.port)).presence = .present then r.image = t.talk.image r.port else r ∈ s.fabric.audio

/-- The seven requests that read change nothing: each is answered at once from the state as it then stands, RANGE outside the ranges its
rule gives, and READ_STATUS part LINK counts the request in service. That READ_SALVO answers RANGE for a page above 47 and for an unknown part
also while the store is STARTING is the model's choice (log entry 21: R181 and R186 give no order). The model's choices in it: log entries
18, 20 and 21. -/
def Obligations.ReadsChangeNothing : Prop :=
  ∀ (s : State) (tag a b c : Nat), s.link.quiet →
    let answers (i : Instr) (q : Request) (x : Answer) : Prop := AnswersOnly i s tag q x.result x.data
    answers (.readTally tag a b c) (.readTally a b c) (readTallyAnswer s a b c)
      ∧ (readTallyAnswer s a b c).result = (if a < 3 ∧ 1 ≤ c ∧ c ≤ 32 ∧ b + c ≤ 128 then .done else .range)
      ∧ answers (.readDest tag a) (.readDest a) (readDestAnswer s a)
      ∧ (readDestAnswer s a).result = (if a < 64 then .done else .range)
      ∧ answers (.readRoster tag a b c) (.readRoster a b c) (readRosterAnswer s a b c)
      ∧ (readRosterAnswer s a b c).result = (if a < 4 ∧ (b = 0 ∨ ((b = 1 ∨ b = 2) ∧ 1 ≤ c ∧ c ≤ 16)) then .done else .range)
      ∧ answers (.readTalks tag a b c) (.readTalks a b c) (readTalksAnswer s a b c)
      ∧ (a = 0 → (readTalksAnswer s a b c).result = if 1 ≤ c ∧ c ≤ 16 ∧ b + c ≤ 128 then .done else .range)
      ∧ (a = 1 → (readTalksAnswer s a b c).result = if 1 ≤ c ∧ c ≤ 16 ∧ b + c ≤ 64 then .done else .range)
      ∧ (a = 2 → 128 ≤ b → (readTalksAnswer s a b c).result = .range)
      ∧ (∀ id : TalkId, a = 2 → b = id.val →
          (readTalksAnswer s a b c).result = if (s.talk.talks.get id).isSome then .done else .absent)
      ∧ (3 ≤ a → (readTalksAnswer s a b c).result = if a = 3 then .done else .range)
      ∧ answers (.readListener tag a) (.readListener a) (readListenerAnswer s a)
      ∧ (readListenerAnswer s a).result = (if a < 96 then .done else .range)
      ∧ answers (.readSalvo tag a b) (.readSalvo a b) (readSalvoAnswer s a b)
      ∧ (∀ n : SalvoId, a = 0 → b = n.val → (readSalvoAnswer s a b).result = if s.store.busyFor n then .busy else .done)
      ∧ (a = 0 → 48 ≤ b → (readSalvoAnswer s a b).result = .range)
      ∧ (1 ≤ a → (readSalvoAnswer s a b).result = if a = 1 then .done else .range)
      ∧ answers (.readStatus tag a) (.readStatus a) (readStatusAnswer { s with link := s.link.inService tag (.readStatus a) } a)
      ∧ (∀ u, (readStatusAnswer u a).result = if a < 6 then .done else .range)

/-- A request that comes while a reply fills the reply slot waits at the end of the queue, untouched; one that finds four waiting is refused
BUSY with its own tag and kind and counted, or counted as unformed where four replies of the unit wait already; it changes nothing else. -/
def Obligations.RequestsWaitForTheSlot : Prop :=
  ∀ (i : Instr) (tag : Nat) (r : Request) (s : State), i.request = some (tag, r) → s.link.wf → s.link.slotHeld = true →
    let l := s.link
    let busy := { l.counts with busy := bump l.counts.busy }
    (l.requests.length < 4 →
      exec i s = .next (State.settle { s with link := { l with requests := l.requests ++ [⟨tag, r⟩] } }))
    ∧ (l.requests.length = 4 → l.immediate < 4 →
        exec i s = .next (State.settle
          { s with link := { l with counts := busy, replies := l.replies ++ [⟨false, ⟨tag, .busy, r.kind, []⟩⟩] } }))
    ∧ (l.requests.length = 4 → l.immediate = 4 →
        exec i s = .next (State.settle { s with link := { l with counts := { busy with unformed := bump busy.unformed } } }))

/-! ## Frames on the control link -/

/-- A byte on CL_RX, whichever of its two rows tells it: a receiver that hunts takes a good sync byte and counts any other byte as skipped;
one that collects discards the frame on a bad stop bit, on a length outside 2-250 and on a failed check, answering FRAME with tag 0 and the
cause; a good byte short of the end is kept and restarts the gap timer. A gap ends the frame the same way, and a complete frame whose kind
names no request, or whose body is too short, is answered FRAME with its tag; any other is served, its own reply begun. The model's choices
in it: log entries 1, 3, 6 and 18. -/
def Obligations.ControlLinkFramesAreJudged : Prop :=
  ∀ s : State, s.link.quiet →
    let l := s.link
    let refused (tag kind : Nat) (cause : FrameCause) : Link :=
      { l with rx := .hunting, counts := l.counts.discard cause
               sending := some (Reply.frame ⟨tag, .frame, kind, [byteOf (frameCauseCode cause)]⟩) }
    (∀ b : RxByte, exec (.clFrameDiscarded b) s = exec (.clByteReceived b) s)
    ∧ (∀ b : RxByte, l.rx = .hunting → b.stopOk = true → b.value = Config.syncByte →
        exec (.clByteReceived b) s = .next (State.settle { s with link := { l with rx := .collecting [] (s.clock + Config.ms 2) } }))
    ∧ (∀ b : RxByte, l.rx = .hunting → (b.stopOk = false ∨ b.value ≠ Config.syncByte) →
        exec (.clByteReceived b) s =
          .next (State.settle { s with link := { l with counts := { l.counts with skipped := bump l.counts.skipped } } }))
    ∧ (∀ (b : RxByte) (bytes : List Byte) (gap : Nat), l.rx = .collecting bytes gap →
        (b.stopOk = false → exec (.clByteReceived b) s = .next (State.settle { s with link := refused 0 0 .framing }))
        ∧ (b.stopOk = true → bytes = [] → (b.value.toNat < 2 ∨ 250 < b.value.toNat) →
            exec (.clByteReceived b) s = .next (State.settle { s with link := refused 0 0 .length }))
        ∧ (b.stopOk = true → bytes = [] → 2 ≤ b.value.toNat → b.value.toNat ≤ 250 →
            exec (.clByteReceived b) s =
              .next (State.settle { s with link := { l with rx := .collecting [b.value] (s.clock + Config.ms 2) } }))
        ∧ (∀ len rest, b.stopOk = true → bytes = len :: rest →
            (bytes.length + 1 < len.toNat + 2 →
              exec (.clByteReceived b) s =
                .next (State.settle { s with link := { l with rx := .collecting (bytes ++ [b.value]) (s.clock + Config.ms 2) } }))
            ∧ (len.toNat + 2 ≤ bytes.length + 1 → byteSum (bytes ++ [b.value]) ≠ 0 →
              exec (.clByteReceived b) s = .next (State.settle { s with link := refused 0 0 .check })))
        ∧ exec .clGapTimeout s =
            .next (State.settle { s with clock := max s.clock gap, link := refused 0 0 .gap }))
    ∧ (l.rx = .hunting → NoEffect .clGapTimeout s)
    ∧ (∀ (kind tag : Byte) (body : List Byte), l.rx = .hunting →
        (kind.toNat = 0 ∨ 0x1F < kind.toNat →
          exec (.clFrameReceived kind tag body) s = .next (State.settle { s with link := refused tag.toNat kind.toNat .kind }))
        ∧ (1 ≤ kind.toNat → kind.toNat ≤ 0x1F → decodeRequest kind.toNat body = none →
          exec (.clFrameReceived kind tag body) s = .next (State.settle { s with link := refused tag.toNat kind.toNat .body }))
        ∧ (∀ r, 1 ≤ kind.toNat → kind.toNat ≤ 0x1F → decodeRequest kind.toNat body = some r →
          ∃ t result data, exec (.clFrameReceived kind tag body) s = .next t
            ∧ t.link.requests = [] ∧ t.link.counts = l.counts
            ∧ t.link.sending = some (Reply.frame ⟨tag.toNat, result, r.kind, data⟩)))

/-- The transmitter that ends a frame begins the next: a waiting reply first, then the next part of a long notice, then the notice at the
head of the queue, whose leaving lets a GAP notice in where notices were lost; with nothing to send it is idle. Where requests wait, the
frame that begins is a reply; if it leaves the reply slot empty, the request at the head of the queue is served, with the whole effect of its
row, and its reply fills the slot, the others waiting on; if the slot's reply is still held, none is served. The model's choices in it: log
entry 3. -/
def Obligations.TransmitterChoosesTheNextFrame : Prop :=
  (∀ s : State, s.link.sending.isSome = true → s.link.requests = [] → s.link.serving = false →
    let l := s.link
    let sends (m : Link) : Prop := exec .clTransmitComplete s = .next (State.settle { s with link := m })
    (∀ r rs, l.replies = r :: rs → sends { l with replies := rs, sending := some r.reply.frame })
    ∧ (l.replies = [] → ∀ c, l.continuation = some c →
        sends { l with
          sending := some ⟨c.kind, c.number,
            byteOf (c.index % 128 + if c.rest.length ≤ 247 then 128 else 0) :: c.rest.take 247⟩
          continuation := if c.rest.length ≤ 247 then none else some ⟨c.kind, c.number, c.index + 1, c.rest.drop 247⟩ })
    ∧ (l.replies = [] → l.continuation = none → ∀ q qs, l.notices = q :: qs →
        let bytes := q.notice.fields
        let begun : Link :=
          { l with
            notices := qs
            sending := some ⟨q.notice.kindByte, q.number, byteOf (if bytes.length ≤ 247 then 128 else 0) :: bytes.take 247⟩
            continuation := if bytes.length ≤ 247 then none else some ⟨q.notice.kindByte, q.number, 1, bytes.drop 247⟩ }
        (l.gapFlag = false → sends begun)
        ∧ (l.gapFlag = true →
            sends { begun with
              notices := qs ++ [⟨l.noticeCount, .gap l.dropped l.droppedKinds⟩], noticeCount := (l.noticeCount + 1) % 256
              gapFlag := false, dropped := 0, droppedKinds := 0 }))
    ∧ (l.replies = [] → l.continuation = none → l.notices = [] → sends { l with sending := none }))
  ∧ ∀ (s : State) (q : Queued) (behind : List Queued) (r : PendingReply) (rs : List PendingReply),
    s.link.sending.isSome = true → s.link.serving = false → s.link.requests = q :: behind → s.link.replies = r :: rs →
    let begun (waiting : List Queued) : State :=
      { s with link := { s.link with replies := rs, sending := some r.reply.frame, requests := waiting } }
    ((∃ x ∈ rs, x.slot = true) → exec .clTransmitComplete s = .next (begun (q :: behind)).settle)
    ∧ ((∀ x ∈ rs, x.slot = false) →
        (q.request ≠ .restart → ∃ t result data, exec .clTransmitComplete s = .next t
          ∧ t.link.requests = behind ∧ t.link.replies = rs ++ [⟨true, ⟨q.tag, result, q.request.kind, data⟩⟩]
          ∧ t.link.sending = some r.reply.frame)
        ∧ (behind = [] → ∀ i, i.request = some (q.tag, q.request) → exec .clTransmitComplete s = exec i (begun [])))

/-! ## Mixer ports and computations -/

/-- A STAGE record replaces its stage's record, a position or gain above 1024 taken as 1024 and one within range as received, and each
reference taken as BLACK where it names an input above 39, stage P, a stage above 3, the record's own stage or no kind; where anything was
taken otherwise than received, the adjust count grows by one. It restarts the stale timer, returns a STALE port to LIVE with its notice, and
triggers the engine. A KEEP record changes nothing in the table; it restarts the stale timer, and triggers the engine only on a return to LIVE.
The model's choices in it: log entry 9. -/
def Obligations.MixerRecordsApply : Prop :=
  ∀ (s : State) (p : Prod2) (tag : Byte), (s.mixers.get p).rx = .hunting →
    let m := s.mixers.get p
    let back (stage : Option StageId) : Link :=
      match m.state with
      | .live _ => s.link
      | .stale since =>
        s.link.notify (.mixer p (.live stage (since.map fun x => min ((s.clock - x) / Config.ms 1) 65535)))
    (∀ (k : StageId) (r : RawStage), r.wf = true → r.stage = k.val →
      let x := adjustStage k r
      (∃ t, exec (.mixerStageRecord p tag r) s = .next t
        ∧ Keeps [.mixers, .engines, .link, .fabric, .lamps] s t
        ∧ t.mixers = s.mixers.set p
            { m with
              table := m.table.set k x.1, adjusts := if x.2 then bump m.adjusts else m.adjusts
              state := .live (s.clock + Config.ms 500), lastValid := some s.clock }
        ∧ t.link = back (some k) ∧ t.engines = enginesTriggered s.engines t (· == p)
        ∧ t.fabric = s.fabric.choose ∧ t.lamps.refused = s.lamps.refused)
      ∧ x.1.position = (if 1024 < r.position then 1024 else r.position)
      ∧ x.1.gain1 = (if 1024 < r.gain1 then 1024 else r.gain1) ∧ x.1.gain2 = (if 1024 < r.gain2 then 1024 else r.gain2)
      ∧ (let takes (q : RawRef) (f : Ref) (adjusted : Bool) : Prop :=
           (∀ n : InputId, q.kind = 0 → q.index = n.val → f = .input n ∧ adjusted = false)
           ∧ (q.kind = 0 → 40 ≤ q.index → f = .black ∧ adjusted = true)
           ∧ (∀ j : StageId, q.kind = 1 → q.index = j.val →
               (j = 0 ∨ j = k → f = .black ∧ adjusted = true) ∧ (j ≠ 0 → j ≠ k → f = .stage j ∧ adjusted = false))
           ∧ (q.kind = 1 → 4 ≤ q.index → f = .black ∧ adjusted = true)
           ∧ (q.kind = 2 → f = .black ∧ adjusted = false)
           ∧ (q.kind = 3 → f = .matte ∧ adjusted = false)
           ∧ (4 ≤ q.kind → f = .black ∧ adjusted = true)
         ∃ a b u v, takes r.aRef x.1.aRef a ∧ takes r.bRef x.1.bRef b ∧ takes r.key1 x.1.key1 u ∧ takes r.key2 x.1.key2 v
           ∧ (x.2 = true ↔ a = true ∨ b = true ∨ u = true ∨ v = true ∨ 1024 < r.position ∨ 1024 < r.gain1 ∨ 1024 < r.gain2)))
    ∧ ∃ t, exec (.mixerKeepRecord p tag) s = .next t
        ∧ Keeps [.mixers, .engines, .link, .fabric, .lamps] s t
        ∧ t.mixers = s.mixers.set p { m with state := .live (s.clock + Config.ms 500), lastValid := some s.clock }
        ∧ t.link = back none
        ∧ t.engines = enginesTriggered s.engines t (fun q => q == p && !m.state.isLive)
        ∧ t.fabric = s.fabric.choose ∧ t.lamps.refused = s.lamps.refused

/-- At a mixer port: a byte outside a frame is skipped unless it is a good sync byte; a bad stop bit, a bad length, a failed check, a gap, a
kind other than STAGE and KEEP, a length that its kind does not have and a stage number above 3 each discard the frame, adding one to the
discard count and changing nothing else. The stale timer's expiry makes a LIVE port STALE, with
its notice and a trigger; a timer that does not run expires without effect. The model's choices in it: log entries 1, 3 and 6. -/
def Obligations.MixerFaultsAndSilence : Prop :=
  ∀ (s : State) (p : Prod2),
    let m := s.mixers.get p
    let goes (i : Instr) (clock : Nat) (n : MixerPort) : Prop :=
      exec i s = .next (State.settle { s with clock := clock, mixers := s.mixers.set p n })
    let dropped : MixerPort := { m with rx := .hunting, discards := bump m.discards }
    (∀ b : RxByte, exec (.mixerFrameDiscarded p b) s = exec (.mixerByteReceived p b) s)
    ∧ (∀ b : RxByte, m.rx = .hunting →
        goes (.mixerByteReceived p b) s.clock
          (if b.stopOk = true ∧ b.value = Config.syncByte then { m with rx := .collecting [] (s.clock + Config.ms 2) } else m))
    ∧ (∀ (b : RxByte) (bytes : List Byte) (gap : Nat), m.rx = .collecting bytes gap →
        (b.stopOk = false → goes (.mixerByteReceived p b) s.clock dropped)
        ∧ (b.stopOk = true → bytes = [] →
            goes (.mixerByteReceived p b) s.clock
              (if 2 ≤ b.value.toNat ∧ b.value.toNat ≤ 250 then { m with rx := .collecting [b.value] (s.clock + Config.ms 2) } else dropped))
        ∧ (∀ len rest, b.stopOk = true → bytes = len :: rest →
            (bytes.length + 1 < len.toNat + 2 →
              goes (.mixerByteReceived p b) s.clock { m with rx := .collecting (bytes ++ [b.value]) (s.clock + Config.ms 2) })
            ∧ (len.toNat + 2 ≤ bytes.length + 1 → byteSum (bytes ++ [b.value]) ≠ 0 → goes (.mixerByteReceived p b) s.clock dropped))
        ∧ (∀ len kind tag body, b.stopOk = true → bytes = len :: kind :: tag :: body → len.toNat + 2 = bytes.length + 1 →
            byteSum (bytes ++ [b.value]) = 0 →
            (kind ≠ 0x60#8 ∧ kind ≠ 0x61#8) ∨ (kind = 0x60#8 ∧ body.length ≠ 15) ∨ (kind = 0x61#8 ∧ body ≠ [])
              ∨ (kind = 0x60#8 ∧ ∃ stage rest, body = stage :: rest ∧ 3 < stage.toNat) →
            goes (.mixerByteReceived p b) s.clock dropped)
        ∧ goes (.mixerGapTimeout p) (max s.clock gap) dropped)
    ∧ (∀ tag r, m.rx = .hunting → r.wf = true → 3 < r.stage → goes (.mixerStageRecord p tag r) s.clock dropped)
    ∧ (m.rx = .hunting → NoEffect (.mixerGapTimeout p) s)
    ∧ (∀ since, m.state = .stale since → NoEffect (.mixerStaleTimeout p) s)
    ∧ ∀ expiry, m.state = .live expiry →
        ∃ t, exec (.mixerStaleTimeout p) s = .next t
          ∧ Keeps [.clock, .mixers, .engines, .link, .fabric, .lamps] s t
          ∧ t.clock = max s.clock expiry
          ∧ t.mixers = s.mixers.set p { m with state := .stale (some (max s.clock expiry)) }
          ∧ t.link = s.link.notify (.mixer p (.stale m.discards m.adjusts))
          ∧ t.engines = enginesTriggered s.engines t (· == p)
          ∧ t.fabric = s.fabric.choose ∧ t.lamps.refused = s.lamps.refused

/-- A computation completes: its records are published, with the cycle condition and the publication count; a MIXER notice tells a changed
cycle condition, and then a TALLY notice the changed sources; the new colours go to the GPIO unit and the talk engine; and the engine
starts again on the state as it then stands where AGAIN is set, and is IDLE otherwise. With no computation running nothing happens. Each
record's colour, forced flag and uncertain flag follow from the snapshot's class, forced set, thresholds, armed record destinations and
walks. The model's choices in it: log entries 3, 10, 12 and 18. -/
def Obligations.ComputationPublishes : Prop :=
  (∀ (s : State) (p : Prod2),
    let e := s.engines.get p
    (e.running = none → NoEffect (.computationComplete p) s)
    ∧ ∀ x, e.running = some x → ∃ t, exec (.computationComplete p) s = .next t
        ∧ Keeps [.engines, .talk, .gpio, .link, .fabric, .lamps] s t
        ∧ t.engines = s.engines.set p
            { e with
              published := (x.compute p).1, cycle := (x.compute p).2, count := (e.count + 1) % 65536
              running := if e.again then some (t.snapshot p) else none, again := false }
        ∧ (let new := (x.compute p).1
           let changed := (indices 128).filter fun y =>
             decide ((new.get y).colour ≠ (e.published.get y).colour ∨ (new.get y).forced ≠ (e.published.get y).forced
               ∨ (new.get y).uncertain ≠ (e.published.get y).uncertain)
           let cycles : List Notice :=
             if (x.compute p).2 = e.cycle then []
             else match (x.compute p).2 with | some c => [.mixer p (.cycle c)] | none => [.mixer p .cycleClear]
           let tallies : List Notice :=
             if changed = [] then []
             else [.tally p ((e.count + 1) % 65536)
               (changed.map fun y => ⟨y, (new.get y).colour, (new.get y).forced, (new.get y).uncertain⟩)]
           ∃ talks : List Notice, (∀ n ∈ talks, n.kind = .talk) ∧ t.link = (cycles ++ tallies ++ talks).foldl Link.notify s.link)
        ∧ (∀ y, (t.gpio.colours.get p).get y = ((x.compute p).1.get y).colour)
        ∧ (∀ y, t.gpio.combined.get y = t.combinedColour y)
        ∧ (∀ y, (t.talk.colours.get p).get y = ((x.compute p).1.get y).colour)
        ∧ (∀ id r, t.talk.talks.get id = some r → r.target = .follow p →
            r.listeners = (followPorts s.map (t.talk.colours.get p)).filter (· != r.talker)))
  ∧ ∀ (x : Snapshot) (p : Prod2) (y : SourceId),
    let r := (x.compute p).1.get y
    let k := x.classes.get (blockOf y)
    let forced := x.forced.get y = true
    let recorded : Prop := ∃ d, (x.attrs.get d).record = true ∧ (x.attrs.get d).arm = true
      ∧ (x.attrs.get d).production.includes p = true ∧ (x.dests.get d).1 = some y
    let red : Prop := forced ∨ x.thresholds.air ≤ r.air
    let green : Prop := x.thresholds.preview ≤ r.preview
    let amber : Prop := (k = .camera ∨ k = .replay) ∧ recorded
    (k = .utility → r.colour = .none)
    ∧ (k ≠ .utility → red → r.colour = .red)
    ∧ (k ≠ .utility → ¬ red → green → r.colour = .green)
    ∧ (k ≠ .utility → ¬ red → ¬ green → amber → r.colour = .amber)
    ∧ (k ≠ .utility → ¬ red → ¬ green → ¬ amber → r.colour = .none)
    ∧ (r.forced = true ↔ forced ∧ k ≠ .utility)
    ∧ (r.uncertain = true ↔ x.stale = true ∨ cutsOf x.walkFromP ≠ []
        ∨ ∃ share, 0 < share ∧ (.arrive y share true ∈ x.walkFromP ∨ .arrive y share true ∈ x.preview.walkFromP))
    ∧ r.air = shareOf x.walkFromP y ∧ r.preview = shareOf x.preview.walkFromP y
    ∧ (x.compute p).2 = (cutsOf x.walkFromP).head?

/-- A stage's weights are those of R74's three steps, each product truncated where it is formed, a keyer of gain 0 making no branch; they never
sum above 1024. A branch of weight 0 contributes no share and is traversed as any other is. -/
def Obligations.StageWeightsFollowTheThreeSteps : Prop :=
  ∀ (k : StageId) (r : StageRec), r.inRange k →
    let step (g w : Nat) : Nat := if 0 < g then w * (1024 - g) / 1024 else w
    r.branches =
      ([(.a, r.aRef, step r.gain2 (step r.gain1 (1024 - r.position))), (.b, r.bRef, step r.gain2 (step r.gain1 r.position))]
        ++ (if 0 < r.gain1 then [(.key1, r.key1, step r.gain2 r.gain1)] else [])
        ++ (if 0 < r.gain2 then [(.key2, r.key2, r.gain2)] else []))
    ∧ 1024 - r.position + r.position = 1024 ∧ (r.branches.map fun b => b.2.2).sum ≤ 1024
    ∧ ∀ (x : Snapshot) (fuel : Nat) (path : List StageId) (j : StageId),
        (∀ y, shareOf (x.walk fuel path j 0) y = 0)
        ∧ ∀ share, cutsOf (x.walk fuel path j 0) = cutsOf (x.walk fuel path j share)

/-- In every completed computation on stage records within their ranges, the air shares of all 128 sources sum to at most 1024, and so do the
preview shares; and the two walks meet the same cuts. -/
def Obligations.SharesSumToAtMostAWhole : Prop :=
  ∀ (x : Snapshot) (p : Prod2), stagesInRange x.stages →
    let records := (x.compute p).1
    ((indices 128).map fun s => (records.get s).air).sum ≤ 1024
      ∧ ((indices 128).map fun s => (records.get s).preview).sum ≤ 1024
      ∧ cutsOf x.walkFromP = cutsOf x.preview.walkFromP

/-! ## Frame events -/

/-- The frame watcher: a pulse in LOCKED measures the period and restarts the loss timer, and in FREE_RUN returns to LOCKED with its notice;
the loss timer's expiry enters FREE_RUN, with its notice, with the measured period where it lies within 16-42 ms and 40 ms otherwise; the
free-run timer runs on period by period. The FRAME notice is the last that its event raises, and the only one where the frame event finds
nothing to do. A timer that does not run expires without effect. The model's choices in it: log entries 1, 3 and 14. -/
def Obligations.FrameWatcherLocksAndRunsFree : Prop :=
  ∀ s : State,
    let w := s.xpt.watcher
    let still : Prop := s.xpt.adopted = false
      ∨ (s.xpt.takes = [] ∧ s.xpt.superseded = [] ∧ ∀ d, (s.dest d).state ≠ .retry false)
    let tells (t : State) (n : Notice) : Prop := (∃ l : Link, t.link = l.notify n) ∧ (still → t.link = s.link.notify n)
    (∀ loss, w.state = .locked loss →
      NoEffect .freeRunPeriodExpiry s
      ∧ (∃ t, exec .framePulse s = .next t ∧ Keeps [.xpt, .fabric, .engines, .gpio, .link, .lamps] s t
          ∧ t.gpio.freeRun = s.gpio.freeRun ∧ (still → t.link = s.link)
          ∧ t.xpt.watcher =
              { w with
                state := .locked (s.clock + Config.ms 100)
                measured := match w.lastPulse with | some x => some (s.clock - x) | none => w.measured
                lastPulse := some s.clock })
      ∧ (let n := match w.measured with
                  | some n => if Config.ms 16 ≤ n ∧ n ≤ Config.ms 42 then n else Config.ms 40
                  | none => Config.ms 40
         ∃ t, exec .frameLossTimeout s = .next t ∧ Keeps [.clock, .xpt, .fabric, .engines, .gpio, .link, .lamps] s t
          ∧ t.clock = max s.clock loss ∧ t.gpio.freeRun = true ∧ tells t (.frameFreeRun (n / 24))
          ∧ t.xpt.watcher = { w with state := .freeRun (max s.clock loss + n), freePeriod := n }))
    ∧ ∀ expiry, w.state = .freeRun expiry →
        NoEffect .frameLossTimeout s
        ∧ (∃ t, exec .framePulse s = .next t ∧ Keeps [.xpt, .fabric, .engines, .gpio, .link, .lamps] s t
            ∧ t.gpio.freeRun = false ∧ tells t .frameLocked
            ∧ t.xpt.watcher = { w with state := .locked (s.clock + Config.ms 100), lastPulse := some s.clock })
        ∧ ∃ t, exec .freeRunPeriodExpiry s = .next t ∧ Keeps [.clock, .xpt, .fabric, .engines, .gpio, .link, .lamps] s t
            ∧ t.clock = max s.clock expiry ∧ t.gpio.freeRun = s.gpio.freeRun ∧ (still → t.link = s.link)
            ∧ t.xpt.watcher = { w with state := .freeRun (expiry + w.freePeriod) }

/-- A frame event, by a pulse or by an expiry that is one (R22), moves every destination by its own entry alone. A dispatched take sets the
expected source, flips the sequence bit and leaves the destination IN_FLIGHT with its XSET queued or being sent, or in RETRY where its card
is ABSENT; a waiting RETRY that is not dispatched is sent, or becomes FAULTED where its card is ABSENT; every other destination stays. The
lists are emptied. The notices are the DEST_FAULTs of the retries that no card can take, one TAKEN notice of what was superseded and of
every entry in list order, and the watcher's own. Each production that routes a dispatched destination, or that an armed record destination
dispatched names, is triggered, once and alone where no card is ABSENT. Before adoption nothing of this happens. The model's choices in it:
log entries 10 and 14. -/
def Obligations.FrameEventMovesEachDestination : Prop :=
  ∀ (i : Instr) (s t : State), s.xpt.listWf → exec i s = .next t →
    (i = .framePulse ∨ (i = .frameLossTimeout ∧ ∃ loss, s.xpt.watcher.state = .locked loss)
      ∨ (i = .freeRunPeriodExpiry ∧ ∃ expiry, s.xpt.watcher.state = .freeRun expiry)) →
    let turns : List Notice :=
      match i, s.xpt.watcher.state with
      | .framePulse, .freeRun _ => [.frameLocked]
      | .frameLossTimeout, _ => [.frameFreeRun (t.xpt.watcher.freePeriod / 24)]
      | _, _ => []
    (s.xpt.adopted = false →
      t.xpt.dests = s.xpt.dests ∧ t.xpt.takes = s.xpt.takes ∧ t.xpt.superseded = s.xpt.superseded ∧ t.engines = s.engines
        ∧ t.link = turns.foldl Link.notify s.link)
    ∧ (s.xpt.adopted = true →
        let away (d : DestId) : Bool := decide ((s.card (videoCard d)).presence = .absent)
        let result (e : TakeEntry) : TakenResult :=
          let x := s.dest e.dest
          if (match x.lock with | some k => k.owner != e.origin.identity && !e.forced | none => false) then .locked
          else if x.state = .verified ∧ e.source = x.expected then .unchanged
          else .dispatched
        let gone := (s.xpt.takes.filter fun e => result e == .dispatched).map fun e => e.dest
        let faults := (indices 64).filter fun d => (s.dest d).state == .retry false && !gone.contains d && away d
        let items : List TakenItem :=
          s.xpt.superseded.map (fun x => ⟨x.dest.val, .superseded, x.source, x.origin, x.count⟩)
            ++ s.xpt.takes.map fun e => ⟨e.dest.val, result e, e.source, e.origin, 0⟩
        let notices : List Notice :=
          faults.map (fun d => .destFault d (s.dest d).expected .timeout (s.dest d).lastOrigin)
            ++ (if items = [] then [] else [.taken .frame items])
        let moves (q : Prod2) : Bool := gone.any fun d =>
          (s.map.inputs.get q).cells.any (· == .routed d)
            || ((s.map.attrs.get d).record && (s.map.attrs.get d).arm && (s.map.attrs.get d).production.includes q)
        t.xpt.takes = [] ∧ t.xpt.superseded = [] ∧ t.link = (notices ++ turns).foldl Link.notify s.link
        ∧ ((∀ c, (s.card c).presence ≠ .absent) → t.engines = enginesTriggered s.engines t moves)
        ∧ (∀ q, moves q = true → (s.engines.get q).pendingAdoption = false → ∃ x, (t.engines.get q).running = some x)
        ∧ ∀ d,
          let x := s.dest d
          (∀ e ∈ s.xpt.takes, e.dest = d → result e = .dispatched →
            t.dest d =
              { x with
                expected := e.source, seq := !x.seq, lastOrigin := some e.origin
                state := if away d then .retry false else .inFlight, retryCount := if away d then 1 else 0 }
            ∧ (away d = false → .xset d e.source (!x.seq) ∈ t.fabric.video
                ∨ t.fabric.sending = some ⟨.video (.xset d e.source (!x.seq)), false⟩))
          ∧ (d ∉ gone → x.state = .retry false →
              t.dest d = { x with seq := !x.seq, state := if away d then .faulted else .retry true })
          ∧ (d ∉ gone → x.state ≠ .retry false → t.dest d = x))

/-! ## The fabric line -/

/-- An answer that fits closes its exchange and sets the card's timeout count to 0. An XECHO of an XSET not superseded gives the outcome:
VERIFIED on a match, RETRY on a first mismatch and FAULTED with a DEST_FAULT notice on a second. An XECHO of an adoption XQUERY makes the
destination adopt the source, and the last of them ends adoption: frame events are honoured, the boot salvo is staged and both engines
start. An XECHO of another XQUERY is a readback. An AACK closes its ASET; a PRESENT of the right kind makes a probed card PRESENT, with
its CARD notice, and queues a VIDEO card's 16 queries or the images of an AUDIO card's 32 ports; one of the wrong kind leaves it ABSENT with
its complaint and a WRONG_KIND notice, after the ABSENT notice of an adoption probe. An answer for which nothing is outstanding leaves all but
the receiver. The receiver begins a record after an idle gap, holds an unfinished one, and skips what follows a complete or a stray one. The
model's choices in it: log entries 3, 14 and 16. -/
def Obligations.FabricAnswersCloseExchanges : Prop :=
  ∀ s : State,
    let f := s.fabric
    let heard : State := { s with fabric := { f with rx := .awaitingGap } }
    (∀ (r : CardRecord) (surplus : List Byte), decodeCardRecord (r.bytes ++ surplus) = some r →
      exec (.fabricStrayRecord ⟨true, r.bytes ++ surplus⟩) s =
        match r with
        | .xecho d a q => exec (.xecho d a q) s
        | .aack p => exec (.aack p) s
        | .present c k => exec (.present c k) s)
    ∧ (∀ (type : Byte) (rest : List Byte),
        let bytes := type :: rest
        (cardRecordLength type = none → exec (.fabricStrayRecord ⟨true, bytes⟩) s = .next heard)
        ∧ ∀ n, cardRecordLength type = some n →
            (bytes.length < n →
              exec (.fabricStrayRecord ⟨true, bytes⟩) s = .next { s with fabric := { f with rx := .collecting bytes } })
            ∧ (n ≤ bytes.length → decodeCardRecord bytes = none → exec (.fabricStrayRecord ⟨true, bytes⟩) s = .next heard))
    ∧ (∀ got bytes, f.rx = .collecting got →
        exec (.fabricStrayRecord ⟨false, bytes⟩) s = exec (.fabricStrayRecord ⟨true, got ++ bytes⟩) s)
    ∧ (∀ bytes, f.rx = .awaitingGap → NoEffect (.fabricStrayRecord ⟨false, bytes⟩) s)
    ∧ (∀ (d : DestId) (source q : Nat) (actual : Feed), feedOf source = some actual →
        let c := videoCard d
        let x := s.dest d
        let closed : Fabric :=
          { f with
            rx := .awaitingGap, exchanges := f.exchanges.set c none, cards := f.cards.set c { s.card c with timeouts := 0 } }
        let routes (p : Prod2) : Bool := (s.map.inputs.get p).cells.any (· == .routed d)
        let retry : Dest := { x with state := .retry false, retryCount := 1 }
        (f.exchanges.get c = none → exec (.xecho d.val source q) s = .next heard.settle)
        ∧ (∀ sent b late expiry, f.exchanges.get c = some ⟨.video (.xset d sent b), late, expiry⟩ →
            ((q % 2 == 1) ≠ b → exec (.xecho d.val source q) s = .next heard.settle)
            ∧ ((q % 2 == 1) = b → ∃ t, exec (.xecho d.val source q) s = .next t
                ∧ Keeps [.xpt, .fabric, .engines, .gpio, .link, .lamps] s t
                ∧ t.fabric = closed.choose ∧ (t.card c).timeouts = 0 ∧ (∀ d', d' ≠ d → t.dest d' = s.dest d')
                ∧ (late = true ∨ x.seq ≠ b → t.dest d = x ∧ t.engines = s.engines ∧ t.link = s.link ∧ t.gpio = s.gpio)
                ∧ (late = false → x.seq = b →
                    t.dest d =
                      (match x.state with
                        | .inFlight => if actual = sent then { x with state := .verified } else retry
                        | .retry true => if actual = sent then { x with state := .verified } else { x with state := .faulted }
                        | _ => x)
                    ∧ t.engines = enginesTriggered s.engines t (fun p => routes p
                        && (x.state == .retry true || (x.state == .inFlight && actual != sent)))
                    ∧ t.link = (if x.state = .retry true ∧ actual ≠ sent then
                        s.link.notify (.destFault d x.expected (.mismatch actual) x.lastOrigin) else s.link)
                    ∧ t.gpio.faulted =
                        if x.state = .retry true ∧ actual ≠ sent then s.gpio.faulted.set d true else s.gpio.faulted)))
        ∧ (∀ late expiry, f.exchanges.get c = some ⟨.video (.xquery d), late, expiry⟩ → d ∈ (s.card c).progress →
            ∃ u v, exec (.xecho d.val source q) s = .next v.settle ∧ AdoptionChecked u v
              ∧ Keeps [.xpt, .fabric, .gpio] s u
              ∧ u.fabric =
                  { closed with
                    cards := f.cards.set c { s.card c with timeouts := 0, progress := (s.card c).progress.filter (· != d) } }
              ∧ u.xpt = { s.xpt with dests := s.xpt.dests.set d { x with expected := actual, state := .verified } }
              ∧ u.gpio.faulted = s.gpio.faulted.set d false)
        ∧ (∀ late expiry, f.exchanges.get c = some ⟨.video (.xquery d), late, expiry⟩ → d ∉ (s.card c).progress →
            let after : Dest :=
              match x.state with
              | .verified => if actual = x.expected then x else retry
              | .faulted => if actual = x.expected then { x with state := .verified } else retry
              | .retry false => if actual = x.expected then { x with state := .verified } else x
              | _ => x
            ∃ t, exec (.xecho d.val source q) s = .next t
              ∧ Keeps [.xpt, .fabric, .engines, .gpio, .lamps] s t
              ∧ t.fabric = closed.choose
              ∧ t.xpt = { s.xpt with dests := s.xpt.dests.set d after }
              ∧ t.engines = enginesTriggered s.engines t (fun p => routes p && after.state != x.state)
              ∧ t.gpio.faulted = if x.state = .faulted then s.gpio.faulted.set d false else s.gpio.faulted))
    ∧ (∀ (p : PortId) (image : Image) (late : Bool) (expiry : Nat),
        f.exchanges.get (audioCard p) = some ⟨.aset ⟨p, image⟩, late, expiry⟩ →
        exec (.aack p.val) s = .next (State.settle
          { s with
            fabric := { f with
              rx := .awaitingGap
              exchanges := f.exchanges.set (audioCard p) none
              cards := f.cards.set (audioCard p) { s.card (audioCard p) with timeouts := 0 } } }))
    ∧ (∀ p : PortId, f.exchanges.get (audioCard p) = none → exec (.aack p.val) s = .next heard.settle)
    ∧ ∀ (c : CardId) (kind : Nat), kind ≤ 1 →
        (f.exchanges.get c = none → exec (.present c.val kind) s = .next heard.settle)
        ∧ (∀ late expiry, f.exchanges.get c = some ⟨.probe c, late, expiry⟩ →
            ∃ t, exec (.present c.val kind) s = .next t
              ∧ Keeps [.xpt, .fabric, .engines, .gpio, .link, .store, .lamps] s t
              ∧ t.fabric.rx = .awaitingGap ∧ t.fabric.exchanges.get c = none ∧ (t.card c).timeouts = 0
              ∧ (if (kind == 1) = !isVideo c then
                  (t.card c).presence = .present ∧ (t.card c).complaint = false ∧ (t.card c).probe = none ∧ t.gpio.absent.get c = false
                  ∧ (∀ d, videoCard d = c →
                      (∃ w ∈ t.fabric.video, w.dest = d) ∨ ∃ w late, t.fabric.sending = some ⟨.video w, late⟩ ∧ w.dest = d)
                else
                  (t.card c).presence = (if (s.card c).presence = .unknown then .absent else (s.card c).presence)
                  ∧ (t.card c).complaint = true ∧ (t.card c).probe = some (s.clock + Config.ms 1000))
              ∧ (t.xpt.adopted = true ↔ s.xpt.adopted = true ∨ t.allAdopted)
              ∧ (s.xpt.adopted = false → t.xpt.adopted = true →
                  ∀ p, ((s.engines.get p).adopts t p) = t.engines.get p))
        ∧ (∀ late expiry, f.exchanges.get c = some ⟨.probe c, late, expiry⟩ →
            let unknown : Prop := (s.card c).presence = .unknown
            let ports := (indices 96).filter fun p => decide (audioCard p = c)
            let wrong : Notice := .card c (.wrongKind (kind == 1))
            ∃ u v, exec (.present c.val kind) s = .next v.settle ∧ AdoptionChecked u v
              ∧ ((kind == 1) = !isVideo c →
                  u.link = s.link.notify (.card c .present) ∧ u.xpt = s.xpt
                  ∧ (isVideo c = true → unknown → (u.card c).progress = (indices 64).filter fun d => decide (videoCard d = c))
                  ∧ (isVideo c = false →
                      (∀ p ∈ ports, ⟨p, s.talk.image p⟩ ∈ u.fabric.audio)
                      ∧ ((∀ a ∈ f.audio, audioCard a.port ≠ c) → u.fabric.audio = f.audio ++ ports.map fun p => ⟨p, s.talk.image p⟩)))
              ∧ ((kind == 1) = isVideo c → ¬ unknown →
                  u.link = (if (s.card c).complaint then s.link else s.link.notify wrong) ∧ u.xpt = s.xpt)
              ∧ ((kind == 1) = isVideo c → unknown →
                  ∃ w, CardGone s w c .absentProbe ∧ u.link = w.link.notify wrong
                    ∧ ∀ d, u.dest d = if videoCard d = c then { w.dest d with expected := none, state := .faulted } else w.dest d))

/-- The timers of the fabric line: a record that has been sent is outstanding for 2 ms; an expired probe timer makes a PROBE due; a timed-
out exchange leaves the table, a first timeout of a PRESENT card counting 1, its XSET's outcome being TIMEOUT, and a second making it ABSENT
with a probe due 1 s later, every XSET removed from the send queue having the outcome TIMEOUT and its destinations still to adopt becoming
PARKED and FAULTED, and a CARD notice that names the record; an unanswered PROBE starts the 1 s again, and an adoption probe's makes the card
ABSENT with its CARD notice; adoption ends where the last card has settled. A timer that does not run expires without effect. The model's
choices in it: log entries 1, 3, 14 and 16. -/
def Obligations.FabricTimersExpire : Prop :=
  ∀ s : State,
    (∀ r late, s.fabric.sending = some ⟨r, late⟩ →
      exec .fabricRecordSent s = .next (State.settle
        { s with
          fabric := { s.fabric with
            sending := none, exchanges := s.fabric.exchanges.set r.card (some ⟨r, late, s.clock + Config.ms 2⟩) } }))
    ∧ (s.fabric.sending = none → exec .fabricRecordSent s = .next s.settle)
    ∧ ∀ c : CardId,
        let k := s.card c
        (k.probe = none → NoEffect (.probeTimerExpiry c) s)
        ∧ (∀ expiry, k.probe = some expiry →
            exec (.probeTimerExpiry c) s = .next (State.settle
              { s with
                clock := max s.clock expiry
                fabric := { s.fabric with cards := s.fabric.cards.set c { k with probe := none }
                                          probesDue := s.fabric.probesDue.set c true } }))
        ∧ (s.fabric.exchanges.get c = none → NoEffect (.fabricReplyTimeout c) s)
        ∧ ∀ r late expiry, s.fabric.exchanges.get c = some ⟨r, late, expiry⟩ → r.card = c → ∃ t, exec (.fabricReplyTimeout c) s = .next t
            ∧ Keeps [.clock, .xpt, .fabric, .engines, .gpio, .link, .store, .lamps] s t
            ∧ t.clock = max s.clock expiry ∧ t.fabric.exchanges.get c = none
            ∧ (∀ v, r = .video v → k.timeouts = 0 → (t.card c).timeouts = 1 ∧ (t.card c).presence = k.presence)
            ∧ (∀ d f b, r = .video (.xset d f b) → k.timeouts = 0 →
                let x := s.dest d
                (∀ d', d' ≠ d → t.dest d' = s.dest d')
                ∧ t.dest d =
                    if late = true ∨ x.seq ≠ b then x
                    else match x.state with
                      | .inFlight => { x with state := .retry false, retryCount := 1 }
                      | .retry true => { x with state := .faulted }
                      | _ => x)
            ∧ (∀ d, r = .video (.xquery d) → k.timeouts = 0 → t.xpt.dests = s.xpt.dests
                ∧ (d ∈ k.progress → (∃ w ∈ t.fabric.video, w.dest = d) ∨ ∃ w, t.fabric.sending = some ⟨.video w, false⟩ ∧ w.dest = d))
            ∧ (s.xpt.adopted = true → ∀ v, r = .video v → k.timeouts = 0 →
                t.link = match v with
                  | .xset d _ b =>
                    if late = false ∧ (s.dest d).seq = b ∧ (s.dest d).state = .retry true then
                      s.link.notify (.destFault d (s.dest d).expected .timeout (s.dest d).lastOrigin)
                    else s.link
                  | .xquery _ => s.link)
            ∧ (∀ a, r = .aset a → k.timeouts = 0 → (t.card c).timeouts = 1 ∧ (t.card c).presence = k.presence
                ∧ ((t.card c).owed = some a ∨ t.fabric.sending = some ⟨.aset a, false⟩))
            ∧ (r ≠ .probe c → k.timeouts ≠ 0 →
                (t.card c).presence = .absent ∧ (t.card c).timeouts = 0 ∧ (t.card c).probe = some (max s.clock expiry + Config.ms 1000)
                ∧ t.gpio.absent.get c = true ∧ (∀ w ∈ t.fabric.video, videoCard w.dest ≠ c)
                ∧ ∀ w ∈ t.fabric.audio, audioCard w.port ≠ c)
            ∧ (r ≠ .probe c → k.timeouts ≠ 0 →
                let own : State :=
                  match r with
                  | .video (.xset d _ b) =>
                    if late then s
                    else
                      { s with
                        xpt := { s.xpt with dests := s.xpt.dests.set d ((s.dest d).timedOut b) }
                        link := ((s.dest d).timeoutNotice d b).foldl Link.notify s.link }
                  | _ => s
                let lost : Option LostRecord :=
                  match r with
                  | .video (.xset d _ _) => some (.xset d)
                  | .video (.xquery d) => some (.xquery d)
                  | .aset a => some (.aset a.port)
                  | .probe _ => none
                ∃ u v what, exec (.fabricReplyTimeout c) s = .next v.settle ∧ AdoptionChecked u v
                  ∧ lost = some what ∧ CardGone own u c (.absentTimeout what))
            ∧ (r = .probe c → k.presence = .unknown →
                ∃ u v w, exec (.fabricReplyTimeout c) s = .next v.settle ∧ AdoptionChecked u v ∧ CardGone s w c .absentProbe
                  ∧ u.link = w.link
                  ∧ ∀ d, u.dest d = if videoCard d = c then { w.dest d with expected := none, state := .faulted } else w.dest d)
            ∧ (r = .probe c → k.presence ≠ .unknown →
                (t.card c).probe = some (max s.clock expiry + Config.ms 1000) ∧ (t.card c).presence = k.presence)
            ∧ (r = .probe c → k.presence = .unknown → (t.card c).presence = .absent ∧ t.gpio.absent.get c = true)
            ∧ (t.xpt.adopted = true ↔ s.xpt.adopted = true ∨ t.allAdopted)
            ∧ (s.xpt.adopted = false → t.xpt.adopted = true → ∀ p, ((s.engines.get p).adopts t p) = t.engines.get p)

/-! ## Panel loops -/

/-- A loop that is RUNNING with no exchange begins its next message and nothing else; a row of another kind than the next message does
nothing. The next message goes to the lowest address above the last one visited whose entry is not EMPTY: POLL or STATE? to a JOINING or
ACTIVE entry by its lamps or its mark, POLL to a SILENT one, ENROL to a LOST one; after the last of a round it is an ENROL to the next free
address after the enrolment position, or, with no address free, the next round's first. MORE asks for a further POLL first, up to six
exchanges in a visit. A POLL carries the first 12 sendable lamps that differ, tally slots first. A message's characters have 11 bits, the
address character first. The message's end starts the 3 ms window, a POLL's also clearing the hold-off flag; a start bit in the window ends
the window. The model's choices in it: log entries 3 and 15. -/
def Obligations.LoopMessagesBeginAndEnd : Prop :=
  (∀ (s : State) (l : LoopId),
    let x := s.loop l
    let goes (i : Instr) (y : Loop) : Prop := exec i s = .next (State.settle { s with loops := s.loops.set l y })
    let begins (a : AddrIx) (m : LoopMessage) : Loop :=
      { x with exchange := some ⟨a, m, .sending⟩, buffer := [], overrun := false, visited := addressOf a }
    let at_ (a : AddrIx) : RosterState := (s.entry ⟨l, a⟩).state
    let visit (a : AddrIx) : Next :=
      match at_ a with
      | .joining => if s.differing ⟨l, a⟩ = [] then .query a else .poll a
      | .active => if x.wanted.get a = true then .query a else .poll a
      | .silent => .poll a
      | .lost => .enrolLost a
      | .empty => .enrolFree a
    let further : Prop := ∃ a n, x.more = some (a, n) ∧ (at_ a = .joining ∨ at_ a = .active ∨ at_ a = .silent)
    let first (from_ : Nat) (P : AddrIx → Prop) (a : AddrIx) : Prop :=
      from_ < addressOf a ∧ P a ∧ ∀ b, from_ < addressOf b → P b → addressOf a ≤ addressOf b
    let free (a : AddrIx) : Prop := at_ a = .empty
    let held (a : AddrIx) : Prop := at_ a ≠ .empty
    (x.state = .running → x.exchange = none → ∀ n, s.nextMessage l = some n →
      match n with
      | .poll a =>
        let cs := if x.holdOff.get a then [] else (s.differing ⟨l, a⟩).take 12
        goes (.poll l) (begins a (.poll cs)) ∧ exec (.enrol l) s = .next s.settle ∧ exec (.stateQuery l) s = .next s.settle
      | .query a =>
        goes (.stateQuery l) (begins a .stateQuery) ∧ exec (.poll l) s = .next s.settle ∧ exec (.enrol l) s = .next s.settle
      | .enrolLost a =>
        goes (.enrol l) (begins a (.enrol false)) ∧ exec (.poll l) s = .next s.settle ∧ exec (.stateQuery l) s = .next s.settle
      | .enrolFree a =>
        goes (.enrol l) { begins a (.enrol true) with enrolPosition := addressOf a, visited := 0 }
          ∧ exec (.poll l) s = .next s.settle ∧ exec (.stateQuery l) s = .next s.settle)
    ∧ (∀ a n, x.more = some (a, n) → further → s.nextMessage l = some (.poll a))
    ∧ (¬ further → ∀ a, first x.visited held a → s.nextMessage l = some (visit a))
    ∧ (¬ further → (∀ a, ¬ first x.visited held a) →
        (∀ a, first x.enrolPosition free a → s.nextMessage l = some (.enrolFree a))
        ∧ (∀ a, (∀ b, ¬ first x.enrolPosition free b) → first 0 free a → s.nextMessage l = some (.enrolFree a))
        ∧ (∀ a, (∀ b, held b) → first 0 held a → s.nextMessage l = some (visit a)))
    ∧ (x.more = none → (∀ a, (s.entry ⟨l, a⟩).state = .empty) → 1 ≤ x.enrolPosition → x.enrolPosition ≤ 16 →
        ∃ a, s.nextMessage l = some (.enrolFree a) ∧ addressOf a = x.enrolPosition % 16 + 1)
    ∧ ((x.state ≠ .running ∨ x.exchange ≠ none) →
        exec (.poll l) s = .next s.settle ∧ exec (.enrol l) s = .next s.settle ∧ exec (.stateQuery l) s = .next s.settle)
    ∧ (∀ a m, x.exchange = some ⟨a, m, .sending⟩ →
        goes (.loopMessageSent l)
          { x with
            exchange := some ⟨a, m, .window (s.clock + Config.ms 3)⟩
            holdOff := match m with | .poll _ => x.holdOff.set a false | _ => x.holdOff })
    ∧ (∀ a m t, x.exchange = some ⟨a, m, .window t⟩ → goes (.loopReplyStartBit l) { x with exchange := some ⟨a, m, .reply none⟩ })
    ∧ (∀ a m, x.state = .running → x.exchange = some ⟨a, m, .sending⟩ →
        x.drive = some (.message (sentChar true (byteOf (addressOf a)) :: m.data.map (sentChar false))))
    ∧ (∀ a cs phase es, x.state = .running → x.exchange = some ⟨a, .poll cs, phase⟩ → phase ≠ .sending → x.buffer = [] →
        x.overrun = false → 1 ≤ es.length → es.length ≤ 8 → (∀ v ∈ es, v.key < 48) →
        let made := (match x.more with | some (_, n) => n | none => 0) + 1
        ∃ t, exec (.keys l true es) s = .next t ∧ (t.loop l).more = if made < 6 then some (a, made) else none))
  ∧ (∀ (s : State) (p : PanelId),
      let sendable (v : LampId) : Prop := ∃ i, (s.entry p).ident = some i ∧ (v.val < i.keys ∧ v.val < 48 ∨ 48 ≤ v.val ∧ v.val < 48 + i.slots)
      (∀ v w, (v, w) ∈ s.differing p ↔
        sendable v ∧ w = (s.lampImage p).get v ∧ (s.entry p).sent.get v ≠ some w)
      ∧ ((s.differing p).map fun c => if 48 ≤ c.1.val then c.1.val - 48 else c.1.val + 4).Pairwise (· < ·))
  ∧ ∀ (mark : Bool) (b : Byte),
      let c := sentChar mark b
      c.getLsbD 0 = false ∧ (∀ i, i < 8 → c.getLsbD (i + 1) = b.getLsbD i) ∧ c.getLsbD 9 = mark ∧ c.getLsbD 10 = true

/-- A message with no reply in its window, or a reply cut off by a gap, or a complete reply with a fault is a miss: the exchange ends, its
fault is counted, and unless it was an ENROL to a free address the entry's missed polls grow by one: an ACTIVE entry becomes SILENT at 3, a
SILENT or JOINING one LOST at 10, each with its ROSTER notice. SILENT ends the talks of keys held, which become IDLE and stale-down; LOST ends
every talk and listen, sets the LOST time, takes the selection, lifts every key, clears the address's flags and sets a deadline on every lock
of the panel, with its LOCK notice. A stray character is counted, and a window or gap timer that does not run expires without effect. The
model's choices in it: log entries 1, 3, 13, 15 and 21. -/
def Obligations.LoopMissesAreCounted : Prop :=
  ∀ (s : State) (l : LoopId),
    let x := s.loop l
    let missed (i : Instr) (clock : Nat) (a : AddrIx) (m : LoopMessage) (f : LoopFault) : Prop :=
      ∃ t, exec i s = .next t ∧ Keeps [.clock, .loops, .roster, .lamps, .talk, .xpt, .gpio, .fabric, .link] s t
        ∧ t.clock = clock ∧ (t.loop l).exchange = none ∧ (t.loop l).more = none
        ∧ (t.loop l).counts = x.counts.miss f ∧ (∀ k, k ≠ l → t.loop k = s.loop k)
        ∧ (m = .enrol true → t.roster = s.roster ∧ t.talk = s.talk ∧ t.xpt = s.xpt ∧ t.link = s.link)
        ∧ (m ≠ .enrol true → LoopMissed s t l (· == a) f .miss [])
        ∧ (m ≠ .enrol true → ∀ p, p ≠ ⟨l, a⟩ → t.entry p = s.entry p)
        ∧ (let e := s.entry ⟨l, a⟩
           let n := min (e.missed + 1) 255
           m ≠ .enrol true → e.missed ≤ 255 →
             (t.entry ⟨l, a⟩).missed = (if e.state = .empty then e.missed else n)
             ∧ (t.entry ⟨l, a⟩).lastFault = (if e.state = .empty then e.lastFault else some f)
             ∧ (t.entry ⟨l, a⟩).state =
                match e.state with
                | .active => if 3 ≤ n then .silent else .active
                | .silent => if 10 ≤ n then .lost else .silent
                | .joining => if 10 ≤ n then .lost else .joining
                | other => other)
    (∀ a m t, x.exchange = some ⟨a, m, .window t⟩ → missed (.loopReplyWindowTimeout l) (max s.clock t) a m .timeout)
    ∧ ((∀ a m t, x.exchange ≠ some ⟨a, m, .window t⟩) → NoEffect (.loopReplyWindowTimeout l) s)
    ∧ (∀ a m t, x.exchange = some ⟨a, m, .reply (some t)⟩ →
        missed (.loopReplyGapTimeout l) (max s.clock t) a m
          ((replyFault x ⟨a, m, .reply (some t)⟩ x.buffer true).getD .timeout))
    ∧ ((∀ a m t, x.exchange ≠ some ⟨a, m, .reply (some t)⟩) → NoEffect (.loopReplyGapTimeout l) s)
    ∧ (∀ c : LineChar, exec (.loopReplyDiscarded l c) s = exec (.loopReplyCharacter l c) s
        ∧ exec (.loopStrayCharacter l c) s = exec (.loopReplyCharacter l c) s)
    ∧ (∀ c ch, readChar c = some ch → x.listens = true → x.awaits = none →
        exec (.loopStrayCharacter l c) s = .next (State.settle
          { s with loops := s.loops.set l { x with counts := { x.counts with stray := bump x.counts.stray } } }))
    ∧ (∀ c ch e, readChar c = some ch → x.state = .running → x.exchange = some e → e.phase ≠ .sending → x.buffer.length < 64 →
        let cs := x.buffer ++ [ch]
        (replyComplete cs = false →
          exec (.loopReplyCharacter l c) s = .next (State.settle
            { s with
              loops := s.loops.set l
                { x with buffer := cs, exchange := some { e with phase := .reply (some (s.clock + 2 * (11 * x.working))) } } }))
        ∧ ∀ f, replyComplete cs = true → replyFault x e cs false = some f →
            missed (.loopReplyDiscarded l c) s.clock e.addr e.message f)

/-- A valid reply, of a kind that its message admits, ends its exchange with the entry's missed polls at 0 and its last fault cleared. An
IDENT to an ENROL makes an EMPTY entry JOINING, and any reply a LOST one, with the keys up and every lamp unknown; the STATE that answers a
STATE? makes a JOINING entry ACTIVE; any reply brings a SILENT entry back to ACTIVE with its state wanted; entry to ACTIVE frees the panel's
locks of their deadlines. A HOLD sets the hold-off flag and delivers nothing; a KEYS or QUIET delivers the lamp changes that its POLL
carried. Only then, under the new state, the events of a KEYS are applied one by one, and a STATE releases the keys it shows up and presses
those it shows down. An event changes the key image by R121's table, and a dispatched press or release reaches the owner of the key's
function: TALK and LISTEN create, latch and end, DEST selects, SOURCE takes, LOCK locks and releases, SALVO recalls. A reply that no
exchange awaits changes nothing. The model's choices in it: log entries 3, 12, 13 and 15. -/
def Obligations.LoopRepliesAreTaken : Prop :=
  (∀ (s : State) (l : LoopId) (a : AddrIx) (m : LoopMessage) (phase : ExchangePhase),
    (s.loop l).state = .running → (s.loop l).exchange = some ⟨a, m, phase⟩ → phase ≠ .sending → (s.loop l).buffer = [] →
    (s.loop l).overrun = false →
    let p : PanelId := ⟨l, a⟩
    let x := s.loop l
    let e := s.entry p
    let taken (i : Instr) (r : LoopReply) : Prop :=
      (match m, r with
        | .poll _, .keys .. => True
        | .poll _, .hold => True
        | .poll _, .quiet => True
        | .stateQuery, .state _ => True
        | .enrol true, .ident _ => True
        | .enrol false, _ => True
        | _, _ => False) →
      let joins : Bool := e.state == .lost || (e.state == .empty && match r with | .ident _ => true | _ => false)
      let turns : Bool := e.state == .silent || (e.state == .joining && m == .stateQuery)
      let state : RosterState := if joins then .joining else if turns then .active else e.state
      let ident : Option Ident := match r with | .ident i => if joins then some i else e.ident | _ => e.ident
      let sent : Tbl 52 (Option Lamp) :=
        match m, r with
        | _, .hold => e.sent
        | .poll cs, _ => cs.foldl (fun y c => y.set c.1 (some c.2)) e.sent
        | _, _ => e.sent
      let freed := (indices 64).filter fun d => turns && (s.dest d).lockedBy (.panel p) (·.isSome)
      let notices : List Notice :=
        (if freed = [] then [] else [.lock .deadlineCleared (.panel p) freed])
          ++ (if state = e.state then []
              else [.roster l (match m with | .enrol _ => .enrol | _ => .reply) [⟨a, e.state, state, 0, none, if joins then ident else none⟩]])
      ∃ (u : State) (buffer : List LoopChar),
        exec i s = .next (State.settle
          (match e.state, r with
            | .empty, _ => u
            | _, .keys _ es => es.foldl (fun w v => w.keyEvent p v) u
            | _, .state down => u.keyImage p down
            | _, _ => u))
        ∧ Keeps [.loops, .roster, .lamps, .xpt, .link] s u
        ∧ u.loops = s.loops.set l
            { x with
              exchange := none
              buffer := buffer
              more := match m, r with
                | .poll _, .keys true _ =>
                  let made := (match x.more with | some (_, n) => n | none => 0) + 1
                  if made < 6 then some (a, made) else none
                | _, _ => none
              holdOff := match r with | .hold => x.holdOff.set a true | _ => x.holdOff
              wanted :=
                if e.state = .silent then x.wanted.set a true
                else match r with | .state _ => x.wanted.set a false | _ => x.wanted }
        ∧ (e.state = .empty → joins = false → (∀ cs, m ≠ .poll cs) → u.roster = s.roster)
        ∧ (e.state ≠ .empty ∨ joins = true →
            u.roster = s.roster.setP p
              { e with
                state := state, ident := ident, missed := 0, lastFault := none
                keys := if joins then .replicate 48 .up else e.keys
                sent := if joins then .replicate 52 none else sent
                lostAt := if joins then none else e.lostAt })
        ∧ u.lamps = { s.lamps with refused := if joins then s.lamps.refused.setP p (.replicate 48 false) else s.lamps.refused }
        ∧ u.xpt = { s.xpt with dests := u.xpt.dests }
        ∧ (∀ d, u.dest d = if d ∈ freed then { s.dest d with lock := some ⟨.panel p, none⟩ } else s.dest d)
        ∧ u.link = notices.foldl Link.notify s.link
    (∀ kind k keys slots revision, panelKindOf kind = some k → 1 ≤ keys → keys ≤ 48 → slots ≤ 4 → revision < 256 →
      taken (.ident l kind keys slots revision) (.ident ⟨k, keys, slots, revision⟩))
    ∧ (∀ more es, 1 ≤ es.length → es.length ≤ 8 → (∀ v ∈ es, v.key < 48) → taken (.keys l more es) (.keys more es))
    ∧ (∀ down, taken (.stateReply l down) (.state down))
    ∧ taken (.hold l) .hold
    ∧ taken (.quiet l) .quiet)
  ∧ (∀ (s : State) (l : LoopId), (s.loop l).awaits = none →
      (∀ kind keys slots revision, exec (.ident l kind keys slots revision) s = .next s.settle)
      ∧ (∀ more es, exec (.keys l more es) s = .next s.settle) ∧ (∀ down, exec (.stateReply l down) s = .next s.settle)
      ∧ exec (.hold l) s = .next s.settle ∧ exec (.quiet l) s = .next s.settle)
  ∧ ∀ (s : State) (p : PanelId),
    let e := s.entry p
    let map := s.keyMap p
    let count : Nat := match e.ident with | some i => i.keys | none => 0
    let holds (k : KeyId) (h : KeyHold) : State := { s with roster := s.roster.setP p { e with keys := e.keys.set k h } }
    let shows (u : State) (k : KeyId) (on : Bool) : State :=
      { u with lamps := { u.lamps with refused := u.lamps.refused.setP p ((u.lamps.refused.getP p).set k on) } }
    let defers (k : KeyId) : Bool :=
      e.state == .joining && match (map.keys.get k).fn with | .talk _ => true | .listen _ => true | _ => false
    (∀ k : KeyId,
      (count ≤ k.val → ∀ down, s.keyEvent p ⟨k.val, down⟩ = s)
      ∧ (k.val < count →
          (e.keys.get k ≠ .up → s.keyEvent p ⟨k.val, true⟩ = s)
          ∧ (e.keys.get k = .up → s.keyEvent p ⟨k.val, true⟩ = if defers k then holds k .deferred else (holds k .down).dispatchDown p k)
          ∧ (e.keys.get k = .down → s.keyEvent p ⟨k.val, false⟩ = (shows (holds k .up) k false).dispatchUp p k)
          ∧ (e.keys.get k ≠ .down → s.keyEvent p ⟨k.val, false⟩ = shows (holds k .up) k false)))
    ∧ (∀ down : BitVec 48,
        let ups := (indices 48).filter fun k => decide (k.val < count) && e.keys.get k != .up && !down.getLsbD k.val
        let presses := (indices 48).filter fun k =>
          decide (k.val < count) && (e.keys.get k == .up || e.keys.get k == .deferred) && down.getLsbD k.val
        s.keyImage p down = presses.foldl (fun w k => w.admitDown p k) (ups.foldl (fun w k => w.keyEvent p ⟨k.val, false⟩) s))
    ∧ (∀ k : KeyId, s.admitDown p k = if defers k then holds k .deferred else (holds k .down).dispatchDown p k)
    ∧ ∀ k : KeyId,
      let press := s.dispatchDown p k
      let release := s.dispatchUp p k
      let keyed (x : TalkKey) : Talk := { s.talk with keys := s.talk.keys.setP p ((s.talk.keys.getP p).set k x) }
      let silent : Prop := press = s
      match (map.keys.get k).fn with
      | .unused => silent ∧ release = s
      | .dest d => press = { s with roster := s.roster.setP p { e with selected := some d } } ∧ release = s
      | .source f =>
        release = s
        ∧ (e.selected = none → press = shows s k true)
        ∧ ∀ d, e.selected = some d →
            let barred : Prop := s.map.breaksReturn f d = true ∨ ∃ x, (s.dest d).lock = some x ∧ x.owner ≠ .panel p
            let entry : TakeEntry := ⟨d, f, .panel p, false⟩
            (barred → press = shows s k true)
            ∧ (¬ barred → (∀ x ∈ s.xpt.takes, x.dest ≠ d) →
                press = { s with xpt := { s.xpt with takes := s.xpt.takes ++ [entry] } })
            ∧ ∀ old ∈ s.xpt.takes, ¬ barred → old.dest = d → s.xpt.listWf →
                press = { s with
                  xpt := { s.xpt with
                    takes := s.xpt.takes.map fun x => if x.dest = d then entry else x
                    superseded := supersede s.xpt.superseded old } }
      | .lock =>
        release = s
        ∧ (e.selected = none → silent)
        ∧ ∀ d, e.selected = some d →
            let locks (x : Option Lock) (change : LockChange) : State :=
              { s with
                xpt := { s.xpt with dests := s.xpt.dests.set d { s.dest d with lock := x } }
                link := s.link.notify (.lock change (.panel p) [d]) }
            ((s.dest d).lock = none → press = locks (some ⟨.panel p, none⟩) .acquired)
            ∧ ∀ x, (s.dest d).lock = some x →
                (x.owner = .panel p → press = locks none .released) ∧ (x.owner ≠ .panel p → silent)
      | .salvo n =>
        release = s
        ∧ (∀ r, s.store.recallRefusal n = some r →
            press = { shows s k true with link := s.link.notify (.store (.recallRefused p n r)) })
        ∧ (s.store.recallRefusal n = none →
            let r := s.offerGroup n (.panel p) (s.store.pages.get n).entries
            press = { r.1 with
              link := if r.2 = [] then s.link
                else s.link.notify (.taken (.recall n (.panel p)) (r.2.map (RefusedEntry.item n (.panel p)))) })
      | .talk g =>
        let o : TalkOrigin := .panel p k
        let ends (u : State) (x : TalkKey) : Prop :=
          Keeps [.talk, .gpio, .fabric, .link] s u ∧ u.talk.key p k = x
            ∧ ∀ id, s.talk.talkOf o = some id → u.talk.talks.get id = none
        let becomes (u : State) (x : TalkKey) : Prop := Keeps [.talk, .gpio] s u ∧ u.talk = keyed x
        (match s.talk.key p k with
          | .idle =>
            (∀ why, s.talk.admitTalk map.port g = .error why →
              Keeps [.talk, .gpio, .lamps, .link] s press ∧ press.talk = keyed .refused ∧ press.lamps = (shows s k true).lamps
              ∧ press.link = s.link.notify (.talk false [⟨false, none, o, map.port, g, .refused why⟩]))
            ∧ ∀ id n, s.talk.admitTalk map.port g = .ok (id, n) →
              Keeps [.talk, .gpio, .fabric, .link] s press
              ∧ press.talk.key p k = .held (s.clock + Config.ms s.talk.latchWindow)
              ∧ ∃ r, press.talk.talks.get id = some r ∧ r.talker = n ∧ r.target = g ∧ r.origin = o
                ∧ r.priority = (map.keys.get k).priority ∧ r.listeners = s.talkWork.resolve n g
                ∧ r.resolution = resolutionOf (press.talk.talkPlacements id r)
          | .latched => ends press .unlatching
          | _ => silent)
        ∧ (match s.talk.key p k with
          | .held _ => if (map.keys.get k).noLatch then ends release .idle else becomes release .latched
          | .momentary => ends release .idle
          | .unlatching => becomes release .idle
          | .refused => becomes release .idle
          | _ => release = s)
        ∧ (map.port = none → s.talk.admitTalk map.port g = .error .noPort)
        ∧ ∀ n, map.port = some n →
            let bad : Prop := g = .port n
              ∨ ∃ i, g = .ifb i ∧ ((s.talk.circuits.get i).talent = none ∨ (s.talk.circuits.get i).talent = some n)
            (bad → s.talk.admitTalk map.port g = .error .target)
            ∧ (¬ bad → (∀ id, s.talk.talks.get id ≠ none) → s.talk.admitTalk map.port g = .error .full)
            ∧ ∀ id, ¬ bad → s.talk.talks.get id = none → (∀ j, j < id → s.talk.talks.get j ≠ none) →
                s.talk.admitTalk map.port g = .ok (id, n)
      | .listen g =>
        let o : TalkOrigin := .panel p k
        let refuses (why : RefuseReason) : Prop :=
          Keeps [.gpio, .link] s press ∧ press.link = s.link.notify (.talk false [⟨true, none, o, map.port, g, .refused why⟩])
        release = s
        ∧ (∀ id, s.talk.listenOf o = some id →
            Keeps [.talk, .gpio, .fabric, .link] s press ∧ press.talk.listens.get id = none ∧ press.talk.keys = s.talk.keys)
        ∧ (s.talk.listenOf o = none →
            (map.port = none → refuses .noPort)
            ∧ ∀ n, map.port = some n →
                (g = .port n → refuses .target)
                ∧ (g ≠ .port n → (∀ id, s.talk.listens.get id ≠ none) → refuses .full)
                ∧ ∀ id, g ≠ .port n → s.talk.listens.get id = none → (∀ j, j < id → s.talk.listens.get j ≠ none) →
                    Keeps [.talk, .gpio, .fabric, .link] s press
                    ∧ ∃ r, press.talk.listens.get id = some r ∧ r.listener = n ∧ r.target = g ∧ r.origin = o
                      ∧ r.talkers = s.talkWork.resolveListen n g
                      ∧ r.resolution = resolutionOf (press.talk.listenPlacements id r))

/-- The states of a loop: a long break where the receiver takes it is a LINE_FAULT with the restart timer at 1 s; the timer's expiry is a
restart attempt; a break sent starts the 100 ms wait; the wait ends in RUNNING, or RATE_SEARCH under AUTO, where the line is at 1 and in
LINE_FAULT where it is at 0; a measured start bit within the range sets nominal and trim, and the idle guard then ends in RUNNING; a search
that hears no mark, or one out of range, fails, is counted and tries again after 1 s. A line fault hands every entry of the loop a FRAMING
miss, after its LOOP notice unless a restart attempt failed; a failed search hands each a TIMEOUT miss, after a LOOP notice at the search's
first failure alone. A timer that does not run expires without effect, and a row whose event cannot occur in the loop's state does nothing.
The model's choices in it: log entries 1, 3, 13, 15 and 21. -/
def Obligations.LoopStatesChange : Prop :=
  ∀ (s : State) (l : LoopId),
    let x := s.loop l
    let goes (i : Instr) (clock : Nat) (y : Loop) : Prop :=
      exec i s = .next (State.settle { s with clock := clock, loops := s.loops.set l y })
    let parts (i : Instr) (clock : Nat) (misses : State → Prop) (P : Loop → Prop) : Prop :=
      ∃ t, exec i s = .next t ∧ Keeps [.clock, .loops, .roster, .lamps, .talk, .xpt, .gpio, .fabric, .link] s t
        ∧ t.clock = clock ∧ (∀ k, k ≠ l → t.loop k = s.loop k) ∧ misses t ∧ P (t.loop l)
    let faulted (t : State) : Prop :=
      LoopMissed s t l (fun _ => true) .framing .line
        (match x.state with
          | .running => [.loop l (.lineFault .running)]
          | .starting again _ => if again then [] else [.loop l (.lineFault .starting)]
          | .rateSearch .. => [.loop l (.lineFault .rateSearch)]
          | _ => [])
    let unheard (failed : Bool) (why : LoopChange) (t : State) : Prop :=
      LoopMissed s t l (fun _ => true) .timeout .search (if failed then [] else [.loop l why])
    let running (i : Instr) (clock : Nat) : Prop :=
      exec i s = .next (State.settle
        { s with
          clock := clock
          loops := s.loops.set l { x with state := .running, visited := 0, more := none, exchange := none }
          link := s.link.notify (.loop l (.running x.rate x.nominal x.trim x.working)) })
    let fails (clock : Nat) (y : Loop) : Prop :=
      y.state = .lineFault (clock + Config.ms 1000) ∧ y.exchange = none ∧ y.more = none
        ∧ y.counts = { x.counts with lineFaults := bump x.counts.lineFaults } ∧ y.rate = x.rate ∧ y.nominal = x.nominal ∧ y.trim = x.trim
    (x.listens = true → parts (.longBreak l) s.clock faulted (fails s.clock))
    ∧ (x.listens = false → exec (.longBreak l) s = .next s.settle)
    ∧ (∀ t, x.state = .lineFault t → goes (.lineFaultRestartExpiry l) (max s.clock t) { x with state := .starting true none })
    ∧ ((∀ t, x.state ≠ .lineFault t) → NoEffect (.lineFaultRestartExpiry l) s)
    ∧ (∀ again, x.state = .starting again none →
        goes (.loopBreakSent l) s.clock { x with state := .starting again (some (s.clock + Config.ms 100)) })
    ∧ (∀ failed, x.state = .rateSearch failed .breaking →
        goes (.loopBreakSent l) s.clock { x with state := .rateSearch failed (.waiting (s.clock + Config.ms 100)) })
    ∧ (∀ again t, x.state = .starting again (some t) →
        (x.rate ≠ .auto → running (.startingWaitExpiry l true) (max s.clock t))
        ∧ (x.rate = .auto →
            goes (.startingWaitExpiry l true) (max s.clock t)
              { x with state := .rateSearch false (.listening (max s.clock t + Config.ms 200)) })
        ∧ parts (.startingWaitExpiry l false) (max s.clock t) faulted (fails (max s.clock t)))
    ∧ (∀ failed t high, x.state = .rateSearch failed (.waiting t) →
        goes (.startingWaitExpiry l high) (max s.clock t)
          { x with state := .rateSearch failed (.listening (max s.clock t + Config.ms 200)) })
    ∧ (∀ failed t c, x.state = .rateSearch failed (.listening t) → 0 < c →
        (∀ code, searchCode (nearestNominal c) c = some code →
          goes (.rateMarkMeasured l c) s.clock
            { x with nominal := nearestNominal c, trim := code, state := .rateSearch failed .guard })
        ∧ (searchCode (nearestNominal c) c = none →
            parts (.rateMarkMeasured l c) s.clock (unheard failed (.searchRange c)) fun y =>
              y.state = .rateSearch true (.pausing (s.clock + Config.ms 1000))
                ∧ y.counts = { x.counts with searchFailures := bump x.counts.searchFailures })
        ∧ parts (.rateSearchTimeout l) (max s.clock t) (unheard failed .searchNoMark) fun y =>
            y.state = .rateSearch true (.pausing (max s.clock t + Config.ms 1000))
              ∧ y.counts = { x.counts with searchFailures := bump x.counts.searchFailures })
    ∧ (∀ failed t, x.state = .rateSearch failed (.pausing t) →
        goes (.searchRetryExpiry l) (max s.clock t) { x with state := .rateSearch failed .breaking })
    ∧ (∀ failed, x.state = .rateSearch failed .guard → running (.searchIdleGuardMet l) s.clock)
    ∧ ((∀ failed, x.state ≠ .rateSearch failed .guard) → NoEffect (.searchIdleGuardMet l) s)
    ∧ ((∀ failed t, x.state ≠ .rateSearch failed (.pausing t)) → NoEffect (.searchRetryExpiry l) s)
    ∧ ((∀ failed t, x.state ≠ .rateSearch failed (.listening t)) →
        NoEffect (.rateSearchTimeout l) s ∧ ∀ c, 0 < c → exec (.rateMarkMeasured l c) s = .next s.settle)
    ∧ ((∀ again t, x.state ≠ .starting again (some t)) → (∀ failed t, x.state ≠ .rateSearch failed (.waiting t)) →
        ∀ high, NoEffect (.startingWaitExpiry l high) s)
    ∧ ((∀ again, x.state ≠ .starting again none) → (∀ failed, x.state ≠ .rateSearch failed .breaking) →
        exec (.loopBreakSent l) s = .next s.settle)

/-! ## Timers of the roster, the locks and the talk keys -/

/-- The 30 s hold of a LOST entry ends with it EMPTY, its address's flags cleared and a ROSTER notice; the earliest release deadline of a
panel's locks removes every lock of that panel with that deadline, with one LOCK notice; the latch timer of a HELD key makes it MOMENTARY,
and nothing else changes. A timer that does not run expires without effect. The model's choices in it: log entries 1, 3 and 17. -/
def Obligations.PanelTimersExpire : Prop :=
  ∀ (s : State) (p : PanelId),
    let e := s.entry p
    let x := s.loop p.loop
    (∀ since, e.state = .lost → e.lostAt = some since →
      exec (.rosterHoldExpiry p) s = .next (State.settle
        { s with
          clock := max s.clock (since + Config.ms 30000)
          roster := s.roster.setP p
            { e with state := .empty, ident := none, missed := 0, lastFault := none, sent := .replicate 52 none, lostAt := none }
          loops := s.loops.set p.loop { x with wanted := x.wanted.set p.addr false, holdOff := x.holdOff.set p.addr false }
          link := s.link.notify (.roster p.loop .holdExpiry [⟨p.addr, .lost, .empty, 0, none, none⟩]) }))
    ∧ ((e.state ≠ .lost ∨ e.lostAt = none) → NoEffect (.rosterHoldExpiry p) s)
    ∧ (∀ first, (∃ d, (s.dest d).lock = some ⟨.panel p, some first⟩) →
        (∀ d u, (s.dest d).lock = some ⟨.panel p, some u⟩ → first ≤ u) →
        ∃ t, exec (.lockDeadlineExpiry p) s = .next t ∧ Keeps [.clock, .xpt, .fabric, .link, .lamps] s t
          ∧ t.clock = max s.clock first ∧ t.xpt = { s.xpt with dests := t.xpt.dests }
          ∧ (∀ d, t.dest d = if (s.dest d).lock = some ⟨.panel p, some first⟩ then { s.dest d with lock := none } else s.dest d)
          ∧ t.link = s.link.notify
              (.lock .expired (.panel p) ((indices 64).filter fun d => (s.dest d).lock == some ⟨.panel p, some first⟩)))
    ∧ ((∀ d u, (s.dest d).lock ≠ some ⟨.panel p, some u⟩) → NoEffect (.lockDeadlineExpiry p) s)
    ∧ ∀ k : KeyId,
        (∀ until_, s.talk.key p k = .held until_ →
          ∃ t, exec (.latchTimerExpiry p k) s = .next t ∧ Keeps [.clock, .talk, .gpio, .fabric, .lamps] s t
            ∧ t.clock = max s.clock until_
            ∧ t.talk = { s.talk with keys := s.talk.keys.setP p ((s.talk.keys.getP p).set k .momentary) }
            ∧ (s.gpioAgrees → t.gpio = s.gpio))
        ∧ ((∀ until_, s.talk.key p k ≠ .held until_) → NoEffect (.latchTimerExpiry p k) s)

/-! ## General purpose inputs -/

/-- A contact's change starts its input's debounce timer, or is taken at once where the debounce time is 0; the timer's expiry compares the
levels, and a difference is taken and handed to the mapping's owner: FORCE_RED triggers the productions it names, ARM writes the
destination's arm attribute with its triggers where it differs, and TALK creates or ends the input's talk. The model's choices in it: log
entries 1, 3 and 17. -/
def Obligations.GpiChangesAreDebounced : Prop :=
  ∀ (s : State) (i : GpiId),
    let g := s.gpi i
    let withInput (clock : Nat) (x : Gpi) : State :=
      { s with clock := clock, gpio := { s.gpio with inputs := s.gpio.inputs.set i x } }
    let goes (c : Instr) (t : State) : Prop := exec c s = .next t.settle
    let hands (c : Instr) (clock : Nat) (x : Gpi) : Prop :=
      let u := withInput clock x
      match g.mapping with
      | .unmapped => goes c u
      | .forceRed _ q => goes c { u with engines := enginesTriggered s.engines u q.includes }
      | .arm d =>
        let a := s.map.attrs.get d
        let v := { u with map := { s.map with attrs := s.map.attrs.set d { a with arm := x.level } } }
        if a.arm = x.level then goes c u else goes c { v with engines := enginesTriggered s.engines v a.production.includes }
      | .talk n target =>
        ∃ t, exec c s = .next t ∧ Keeps [.clock, .talk, .gpio, .fabric, .link, .lamps] s t
          ∧ t.clock = clock ∧ t.gpio.inputs = u.gpio.inputs
          ∧ (x.level = false → ∀ k, s.talk.talkOf (.gpi i) = some k → t.talk.talks.get k = none)
          ∧ (x.level = true → s.talk.invalidTarget n target = false → ∀ k, s.talk.freeTalk = some k →
              ∃ r, t.talk.talks.get k = some r
                ∧ r.talker = n ∧ r.target = target ∧ r.origin = .gpi i ∧ r.priority = false)
          ∧ (x.level = true → s.talk.invalidTarget n target = true ∨ s.talk.freeTalk = none → t.talk = s.talk)
    (0 < g.time →
      goes (.gpiRawChange i) (withInput s.clock { g with raw := !g.raw, timer := some (s.clock + Config.ms g.time) }))
    ∧ (g.time = 0 → g.raw ≠ g.level → goes (.gpiRawChange i) (withInput s.clock { g with raw := g.level }))
    ∧ (g.time = 0 → g.raw = g.level → hands (.gpiRawChange i) s.clock { g with raw := !g.raw, level := !g.raw })
    ∧ (∀ until_, g.timer = some until_ →
        (g.raw = g.level → goes (.gpiDebounceExpiry i) (withInput (max s.clock until_) { g with timer := none }))
        ∧ (g.raw ≠ g.level → hands (.gpiDebounceExpiry i) (max s.clock until_) { g with timer := none, level := g.raw }))
    ∧ (g.timer = none → NoEffect (.gpiDebounceExpiry i) s)

/-! ## Salvo store -/

/-- The end of a programming: a first attempt that does not agree is followed by a second; otherwise the operation ends with its target as
written, or BAD, its mark cleared, the store IDLE and a DONE notice, and a boot salvo that waits is then staged, skipped or found to be none
where adoption has completed. The end of the start-up scan makes every marked page, and a marked
header, BAD and the store IDLE, with a START notice where anything was marked; after adoption a boot salvo not yet staged is then staged or
skipped, or there is none. The model's choices in it: log entries 3, 16 and 17. -/
def Obligations.StoreOperationsEnd : Prop :=
  ∀ s : State,
    let x := s.store
    let goes (c : Instr) (t : State) : Prop := exec c s = .next t.settle
    (∀ j second tag agrees, x.state = .operating j second tag →
      (agrees = false → second = false →
        goes (.programmingComplete false) { s with store := { x with state := .operating j true tag } })
      ∧ (agrees = true ∨ second = true →
        let page (p : SalvoId) (es : List SalvoEntry) (st : PageState) : Store :=
          { x with
            state := .idle
            pages := x.pages.set p (if agrees then ⟨st, es, false⟩ else ⟨.bad, [], false⟩) }
        let y : Store :=
          match j with
          | .write p es => page p es .valid
          | .erase p => page p [] .empty
          | .boot v => { x with state := .idle, header := if agrees then ⟨v, false, false⟩ else ⟨none, true, false⟩ }
        let u : State :=
          { s with
            store := y
            link := s.link.notify (.store (.done tag j agrees (if second then 2 else 1) (if y.header.bad then none else y.header.boot))) }
        (x.bootPending = false → goes (.programmingComplete agrees) u)
        ∧ ∃ v, BootStaged u v ∧ goes (.programmingComplete agrees) v))
    ∧ ((∀ j second tag, x.state ≠ .operating j second tag) → ∀ agrees, goes (.programmingComplete agrees) s)
    ∧ (x.state ≠ .starting → NoEffect .startScanComplete s)
    ∧ (x.state = .starting →
        let marked := (indices 48).filter fun n => (x.pages.get n).mark
        let y : Store :=
          { x with
            state := .idle
            pages := .build 48 fun n => if (x.pages.get n).mark then ⟨.bad, [], false⟩ else x.pages.get n
            header := if x.header.mark then ⟨none, true, false⟩ else x.header }
        let boot : Option SalvoId := if y.header.bad then none else y.header.boot
        let link := if marked = [] ∧ x.header.mark = false then s.link else s.link.notify (.store (.start marked x.header.mark))
        let u : State := { s with store := y, link := link }
        let v : State := { u with store := { y with bootPending := false } }
        (∃ v, BootStaged u v ∧ goes .startScanComplete v)
        ∧ (x.bootPending = false ∨ s.xpt.adopted = false → goes .startScanComplete u)
        ∧ (x.bootPending = true → s.xpt.adopted = true →
            (boot = none → goes .startScanComplete v)
            ∧ ∀ n, boot = some n →
              match (y.pages.get n).state with
              | .empty => goes .startScanComplete { v with link := link.notify (.store (.skipped n .absent)) }
              | .bad => goes .startScanComplete { v with link := link.notify (.store (.skipped n .state)) }
              | .valid =>
                let es := (y.pages.get n).entries
                let r := v.offerGroup n .link es
                let told := if r.2 = [] then link else link.notify (.taken (.recall n .link) (r.2.map (RefusedEntry.item n .link)))
                goes .startScanComplete
                  { r.1 with link := told.notify (.store (.staged n es.length (es.length - r.2.length))) }))
end

