-- ==== Sys2Proof/Laws/Lines.lean ====
section
/-! SUPPORT. What the lines' characters and records say once: a sent character reads as what was sent, and all that the fabric line's
receiver can do with the bytes that reach it. -/

namespace Sys2Proof.Machine

/-- A character sampled as it was sent reads as its data and mark, without a flag (R90, R92). -/
@[simp] theorem readChar_sentChar (mark : Bool) (data : Byte) :
    readChar ⟨sentChar mark data, sentChar mark data, sentChar mark data⟩ = some ⟨data, mark, false, false⟩ := by
  revert mark data; decide +kernel

/-- Bytes that follow an idle gap begin a record, whatever came before (R205). -/
theorem FabricRx.take_afterGap (rx : FabricRx) (bytes : List Byte) : rx.take ⟨true, bytes⟩ = FabricRx.awaitingGap.take ⟨true, bytes⟩ := rfl

/-- Bytes without a gap go on with an unfinished record (R205). -/
theorem FabricRx.take_collecting (got bytes : List Byte) :
    (FabricRx.collecting got).take ⟨false, bytes⟩ = FabricRx.awaitingGap.take ⟨true, got ++ bytes⟩ := rfl

/-- Bytes without a gap are skipped after a complete or stray record (R205). -/
theorem FabricRx.take_skipping (bytes : List Byte) : FabricRx.awaitingGap.take ⟨false, bytes⟩ = (.awaitingGap, none) := rfl

/-- All that the receiver can do: skip, hold an unfinished record, or complete one that decodes (R205). -/
theorem FabricRx.take_cases (rx : FabricRx) (x : LineBytes) :
    rx.take x = (.awaitingGap, none) ∨ (∃ bytes, rx.take x = (.collecting bytes, none))
      ∨ ∃ bytes r, rx.take x = (.awaitingGap, some r) ∧ decodeCardRecord bytes = some r := by
  unfold FabricRx.take
  extract_lets held
  match held with
  | none => exact .inl rfl
  | some [] => exact .inr (.inl ⟨_, rfl⟩)
  | some (b :: rest) =>
    dsimp only
    split
    · exact .inl rfl
    · split
      · cases h : decodeCardRecord (b :: rest) with
        | none => exact .inl rfl
        | some r => exact .inr (.inr ⟨_, r, rfl, h⟩)
      · exact .inr (.inl ⟨_, rfl⟩)

end Sys2Proof.Machine
end

