-- ==== Sys2Proof/Laws/State.lean ====
section
/-! SUPPORT. One lemma per field per update of the state, true by rfl, so that no proof unfolds a record update. -/

namespace Sys2Proof.Machine

variable (s : State)

@[simp] theorem State.onLink_clock (f : Link → Link) : (s.onLink f).clock = s.clock := rfl
@[simp] theorem State.onLink_map (f : Link → Link) : (s.onLink f).map = s.map := rfl
@[simp] theorem State.onLink_xpt (f : Link → Link) : (s.onLink f).xpt = s.xpt := rfl
@[simp] theorem State.onLink_fabric (f : Link → Link) : (s.onLink f).fabric = s.fabric := rfl
@[simp] theorem State.onLink_mixers (f : Link → Link) : (s.onLink f).mixers = s.mixers := rfl
@[simp] theorem State.onLink_engines (f : Link → Link) : (s.onLink f).engines = s.engines := rfl
@[simp] theorem State.onLink_loops (f : Link → Link) : (s.onLink f).loops = s.loops := rfl
@[simp] theorem State.onLink_roster (f : Link → Link) : (s.onLink f).roster = s.roster := rfl
@[simp] theorem State.onLink_keymap (f : Link → Link) : (s.onLink f).keymap = s.keymap := rfl
@[simp] theorem State.onLink_lamps (f : Link → Link) : (s.onLink f).lamps = s.lamps := rfl
@[simp] theorem State.onLink_talk (f : Link → Link) : (s.onLink f).talk = s.talk := rfl
@[simp] theorem State.onLink_gpio (f : Link → Link) : (s.onLink f).gpio = s.gpio := rfl
@[simp] theorem State.onLink_store (f : Link → Link) : (s.onLink f).store = s.store := rfl
@[simp] theorem State.onLink_link (f : Link → Link) : (s.onLink f).link = f s.link := rfl
@[simp] theorem State.onLink_pending (f : Link → Link) : (s.onLink f).pending = s.pending := rfl

@[simp] theorem State.onMap_clock (f : SourceMap → SourceMap) : (s.onMap f).clock = s.clock := rfl
@[simp] theorem State.onMap_map (f : SourceMap → SourceMap) : (s.onMap f).map = f s.map := rfl
@[simp] theorem State.onMap_xpt (f : SourceMap → SourceMap) : (s.onMap f).xpt = s.xpt := rfl
@[simp] theorem State.onMap_fabric (f : SourceMap → SourceMap) : (s.onMap f).fabric = s.fabric := rfl
@[simp] theorem State.onMap_mixers (f : SourceMap → SourceMap) : (s.onMap f).mixers = s.mixers := rfl
@[simp] theorem State.onMap_engines (f : SourceMap → SourceMap) : (s.onMap f).engines = s.engines := rfl
@[simp] theorem State.onMap_loops (f : SourceMap → SourceMap) : (s.onMap f).loops = s.loops := rfl
@[simp] theorem State.onMap_roster (f : SourceMap → SourceMap) : (s.onMap f).roster = s.roster := rfl
@[simp] theorem State.onMap_keymap (f : SourceMap → SourceMap) : (s.onMap f).keymap = s.keymap := rfl
@[simp] theorem State.onMap_lamps (f : SourceMap → SourceMap) : (s.onMap f).lamps = s.lamps := rfl
@[simp] theorem State.onMap_talk (f : SourceMap → SourceMap) : (s.onMap f).talk = s.talk := rfl
@[simp] theorem State.onMap_gpio (f : SourceMap → SourceMap) : (s.onMap f).gpio = s.gpio := rfl
@[simp] theorem State.onMap_store (f : SourceMap → SourceMap) : (s.onMap f).store = s.store := rfl
@[simp] theorem State.onMap_link (f : SourceMap → SourceMap) : (s.onMap f).link = s.link := rfl
@[simp] theorem State.onMap_pending (f : SourceMap → SourceMap) : (s.onMap f).pending = s.pending := rfl

@[simp] theorem State.onXpt_clock (f : Crosspoint → Crosspoint) : (s.onXpt f).clock = s.clock := rfl
@[simp] theorem State.onXpt_map (f : Crosspoint → Crosspoint) : (s.onXpt f).map = s.map := rfl
@[simp] theorem State.onXpt_xpt (f : Crosspoint → Crosspoint) : (s.onXpt f).xpt = f s.xpt := rfl
@[simp] theorem State.onXpt_fabric (f : Crosspoint → Crosspoint) : (s.onXpt f).fabric = s.fabric := rfl
@[simp] theorem State.onXpt_mixers (f : Crosspoint → Crosspoint) : (s.onXpt f).mixers = s.mixers := rfl
@[simp] theorem State.onXpt_engines (f : Crosspoint → Crosspoint) : (s.onXpt f).engines = s.engines := rfl
@[simp] theorem State.onXpt_loops (f : Crosspoint → Crosspoint) : (s.onXpt f).loops = s.loops := rfl
@[simp] theorem State.onXpt_roster (f : Crosspoint → Crosspoint) : (s.onXpt f).roster = s.roster := rfl
@[simp] theorem State.onXpt_keymap (f : Crosspoint → Crosspoint) : (s.onXpt f).keymap = s.keymap := rfl
@[simp] theorem State.onXpt_lamps (f : Crosspoint → Crosspoint) : (s.onXpt f).lamps = s.lamps := rfl
@[simp] theorem State.onXpt_talk (f : Crosspoint → Crosspoint) : (s.onXpt f).talk = s.talk := rfl
@[simp] theorem State.onXpt_gpio (f : Crosspoint → Crosspoint) : (s.onXpt f).gpio = s.gpio := rfl
@[simp] theorem State.onXpt_store (f : Crosspoint → Crosspoint) : (s.onXpt f).store = s.store := rfl
@[simp] theorem State.onXpt_link (f : Crosspoint → Crosspoint) : (s.onXpt f).link = s.link := rfl
@[simp] theorem State.onXpt_pending (f : Crosspoint → Crosspoint) : (s.onXpt f).pending = s.pending := rfl

@[simp] theorem State.onFabric_clock (f : Fabric → Fabric) : (s.onFabric f).clock = s.clock := rfl
@[simp] theorem State.onFabric_map (f : Fabric → Fabric) : (s.onFabric f).map = s.map := rfl
@[simp] theorem State.onFabric_xpt (f : Fabric → Fabric) : (s.onFabric f).xpt = s.xpt := rfl
@[simp] theorem State.onFabric_fabric (f : Fabric → Fabric) : (s.onFabric f).fabric = f s.fabric := rfl
@[simp] theorem State.onFabric_mixers (f : Fabric → Fabric) : (s.onFabric f).mixers = s.mixers := rfl
@[simp] theorem State.onFabric_engines (f : Fabric → Fabric) : (s.onFabric f).engines = s.engines := rfl
@[simp] theorem State.onFabric_loops (f : Fabric → Fabric) : (s.onFabric f).loops = s.loops := rfl
@[simp] theorem State.onFabric_roster (f : Fabric → Fabric) : (s.onFabric f).roster = s.roster := rfl
@[simp] theorem State.onFabric_keymap (f : Fabric → Fabric) : (s.onFabric f).keymap = s.keymap := rfl
@[simp] theorem State.onFabric_lamps (f : Fabric → Fabric) : (s.onFabric f).lamps = s.lamps := rfl
@[simp] theorem State.onFabric_talk (f : Fabric → Fabric) : (s.onFabric f).talk = s.talk := rfl
@[simp] theorem State.onFabric_gpio (f : Fabric → Fabric) : (s.onFabric f).gpio = s.gpio := rfl
@[simp] theorem State.onFabric_store (f : Fabric → Fabric) : (s.onFabric f).store = s.store := rfl
@[simp] theorem State.onFabric_link (f : Fabric → Fabric) : (s.onFabric f).link = s.link := rfl
@[simp] theorem State.onFabric_pending (f : Fabric → Fabric) : (s.onFabric f).pending = s.pending := rfl

@[simp] theorem State.onTalk_clock (f : Talk → Talk) : (s.onTalk f).clock = s.clock := rfl
@[simp] theorem State.onTalk_map (f : Talk → Talk) : (s.onTalk f).map = s.map := rfl
@[simp] theorem State.onTalk_xpt (f : Talk → Talk) : (s.onTalk f).xpt = s.xpt := rfl
@[simp] theorem State.onTalk_fabric (f : Talk → Talk) : (s.onTalk f).fabric = s.fabric := rfl
@[simp] theorem State.onTalk_mixers (f : Talk → Talk) : (s.onTalk f).mixers = s.mixers := rfl
@[simp] theorem State.onTalk_engines (f : Talk → Talk) : (s.onTalk f).engines = s.engines := rfl
@[simp] theorem State.onTalk_loops (f : Talk → Talk) : (s.onTalk f).loops = s.loops := rfl
@[simp] theorem State.onTalk_roster (f : Talk → Talk) : (s.onTalk f).roster = s.roster := rfl
@[simp] theorem State.onTalk_keymap (f : Talk → Talk) : (s.onTalk f).keymap = s.keymap := rfl
@[simp] theorem State.onTalk_lamps (f : Talk → Talk) : (s.onTalk f).lamps = s.lamps := rfl
@[simp] theorem State.onTalk_talk (f : Talk → Talk) : (s.onTalk f).talk = f s.talk := rfl
@[simp] theorem State.onTalk_gpio (f : Talk → Talk) : (s.onTalk f).gpio = s.gpio := rfl
@[simp] theorem State.onTalk_store (f : Talk → Talk) : (s.onTalk f).store = s.store := rfl
@[simp] theorem State.onTalk_link (f : Talk → Talk) : (s.onTalk f).link = s.link := rfl
@[simp] theorem State.onTalk_pending (f : Talk → Talk) : (s.onTalk f).pending = s.pending := rfl

@[simp] theorem State.onGpio_clock (f : Gpio → Gpio) : (s.onGpio f).clock = s.clock := rfl
@[simp] theorem State.onGpio_map (f : Gpio → Gpio) : (s.onGpio f).map = s.map := rfl
@[simp] theorem State.onGpio_xpt (f : Gpio → Gpio) : (s.onGpio f).xpt = s.xpt := rfl
@[simp] theorem State.onGpio_fabric (f : Gpio → Gpio) : (s.onGpio f).fabric = s.fabric := rfl
@[simp] theorem State.onGpio_mixers (f : Gpio → Gpio) : (s.onGpio f).mixers = s.mixers := rfl
@[simp] theorem State.onGpio_engines (f : Gpio → Gpio) : (s.onGpio f).engines = s.engines := rfl
@[simp] theorem State.onGpio_loops (f : Gpio → Gpio) : (s.onGpio f).loops = s.loops := rfl
@[simp] theorem State.onGpio_roster (f : Gpio → Gpio) : (s.onGpio f).roster = s.roster := rfl
@[simp] theorem State.onGpio_keymap (f : Gpio → Gpio) : (s.onGpio f).keymap = s.keymap := rfl
@[simp] theorem State.onGpio_lamps (f : Gpio → Gpio) : (s.onGpio f).lamps = s.lamps := rfl
@[simp] theorem State.onGpio_talk (f : Gpio → Gpio) : (s.onGpio f).talk = s.talk := rfl
@[simp] theorem State.onGpio_gpio (f : Gpio → Gpio) : (s.onGpio f).gpio = f s.gpio := rfl
@[simp] theorem State.onGpio_store (f : Gpio → Gpio) : (s.onGpio f).store = s.store := rfl
@[simp] theorem State.onGpio_link (f : Gpio → Gpio) : (s.onGpio f).link = s.link := rfl
@[simp] theorem State.onGpio_pending (f : Gpio → Gpio) : (s.onGpio f).pending = s.pending := rfl

@[simp] theorem State.onStore_clock (f : Store → Store) : (s.onStore f).clock = s.clock := rfl
@[simp] theorem State.onStore_map (f : Store → Store) : (s.onStore f).map = s.map := rfl
@[simp] theorem State.onStore_xpt (f : Store → Store) : (s.onStore f).xpt = s.xpt := rfl
@[simp] theorem State.onStore_fabric (f : Store → Store) : (s.onStore f).fabric = s.fabric := rfl
@[simp] theorem State.onStore_mixers (f : Store → Store) : (s.onStore f).mixers = s.mixers := rfl
@[simp] theorem State.onStore_engines (f : Store → Store) : (s.onStore f).engines = s.engines := rfl
@[simp] theorem State.onStore_loops (f : Store → Store) : (s.onStore f).loops = s.loops := rfl
@[simp] theorem State.onStore_roster (f : Store → Store) : (s.onStore f).roster = s.roster := rfl
@[simp] theorem State.onStore_keymap (f : Store → Store) : (s.onStore f).keymap = s.keymap := rfl
@[simp] theorem State.onStore_lamps (f : Store → Store) : (s.onStore f).lamps = s.lamps := rfl
@[simp] theorem State.onStore_talk (f : Store → Store) : (s.onStore f).talk = s.talk := rfl
@[simp] theorem State.onStore_gpio (f : Store → Store) : (s.onStore f).gpio = s.gpio := rfl
@[simp] theorem State.onStore_store (f : Store → Store) : (s.onStore f).store = f s.store := rfl
@[simp] theorem State.onStore_link (f : Store → Store) : (s.onStore f).link = s.link := rfl
@[simp] theorem State.onStore_pending (f : Store → Store) : (s.onStore f).pending = s.pending := rfl

@[simp] theorem State.onLamps_clock (f : Lamps → Lamps) : (s.onLamps f).clock = s.clock := rfl
@[simp] theorem State.onLamps_map (f : Lamps → Lamps) : (s.onLamps f).map = s.map := rfl
@[simp] theorem State.onLamps_xpt (f : Lamps → Lamps) : (s.onLamps f).xpt = s.xpt := rfl
@[simp] theorem State.onLamps_fabric (f : Lamps → Lamps) : (s.onLamps f).fabric = s.fabric := rfl
@[simp] theorem State.onLamps_mixers (f : Lamps → Lamps) : (s.onLamps f).mixers = s.mixers := rfl
@[simp] theorem State.onLamps_engines (f : Lamps → Lamps) : (s.onLamps f).engines = s.engines := rfl
@[simp] theorem State.onLamps_loops (f : Lamps → Lamps) : (s.onLamps f).loops = s.loops := rfl
@[simp] theorem State.onLamps_roster (f : Lamps → Lamps) : (s.onLamps f).roster = s.roster := rfl
@[simp] theorem State.onLamps_keymap (f : Lamps → Lamps) : (s.onLamps f).keymap = s.keymap := rfl
@[simp] theorem State.onLamps_lamps (f : Lamps → Lamps) : (s.onLamps f).lamps = f s.lamps := rfl
@[simp] theorem State.onLamps_talk (f : Lamps → Lamps) : (s.onLamps f).talk = s.talk := rfl
@[simp] theorem State.onLamps_gpio (f : Lamps → Lamps) : (s.onLamps f).gpio = s.gpio := rfl
@[simp] theorem State.onLamps_store (f : Lamps → Lamps) : (s.onLamps f).store = s.store := rfl
@[simp] theorem State.onLamps_link (f : Lamps → Lamps) : (s.onLamps f).link = s.link := rfl
@[simp] theorem State.onLamps_pending (f : Lamps → Lamps) : (s.onLamps f).pending = s.pending := rfl

@[simp] theorem State.setMixer_clock (p : Prod2) (m : MixerPort) : (s.setMixer p m).clock = s.clock := rfl
@[simp] theorem State.setMixer_map (p : Prod2) (m : MixerPort) : (s.setMixer p m).map = s.map := rfl
@[simp] theorem State.setMixer_xpt (p : Prod2) (m : MixerPort) : (s.setMixer p m).xpt = s.xpt := rfl
@[simp] theorem State.setMixer_fabric (p : Prod2) (m : MixerPort) : (s.setMixer p m).fabric = s.fabric := rfl
@[simp] theorem State.setMixer_mixers (p : Prod2) (m : MixerPort) : (s.setMixer p m).mixers = s.mixers.set p m := rfl
@[simp] theorem State.setMixer_engines (p : Prod2) (m : MixerPort) : (s.setMixer p m).engines = s.engines := rfl
@[simp] theorem State.setMixer_loops (p : Prod2) (m : MixerPort) : (s.setMixer p m).loops = s.loops := rfl
@[simp] theorem State.setMixer_roster (p : Prod2) (m : MixerPort) : (s.setMixer p m).roster = s.roster := rfl
@[simp] theorem State.setMixer_keymap (p : Prod2) (m : MixerPort) : (s.setMixer p m).keymap = s.keymap := rfl
@[simp] theorem State.setMixer_lamps (p : Prod2) (m : MixerPort) : (s.setMixer p m).lamps = s.lamps := rfl
@[simp] theorem State.setMixer_talk (p : Prod2) (m : MixerPort) : (s.setMixer p m).talk = s.talk := rfl
@[simp] theorem State.setMixer_gpio (p : Prod2) (m : MixerPort) : (s.setMixer p m).gpio = s.gpio := rfl
@[simp] theorem State.setMixer_store (p : Prod2) (m : MixerPort) : (s.setMixer p m).store = s.store := rfl
@[simp] theorem State.setMixer_link (p : Prod2) (m : MixerPort) : (s.setMixer p m).link = s.link := rfl
@[simp] theorem State.setMixer_pending (p : Prod2) (m : MixerPort) : (s.setMixer p m).pending = s.pending := rfl

@[simp] theorem State.setEngine_clock (p : Prod2) (e : Engine) : (s.setEngine p e).clock = s.clock := rfl
@[simp] theorem State.setEngine_map (p : Prod2) (e : Engine) : (s.setEngine p e).map = s.map := rfl
@[simp] theorem State.setEngine_xpt (p : Prod2) (e : Engine) : (s.setEngine p e).xpt = s.xpt := rfl
@[simp] theorem State.setEngine_fabric (p : Prod2) (e : Engine) : (s.setEngine p e).fabric = s.fabric := rfl
@[simp] theorem State.setEngine_mixers (p : Prod2) (e : Engine) : (s.setEngine p e).mixers = s.mixers := rfl
@[simp] theorem State.setEngine_engines (p : Prod2) (e : Engine) : (s.setEngine p e).engines = s.engines.set p e := rfl
@[simp] theorem State.setEngine_loops (p : Prod2) (e : Engine) : (s.setEngine p e).loops = s.loops := rfl
@[simp] theorem State.setEngine_roster (p : Prod2) (e : Engine) : (s.setEngine p e).roster = s.roster := rfl
@[simp] theorem State.setEngine_keymap (p : Prod2) (e : Engine) : (s.setEngine p e).keymap = s.keymap := rfl
@[simp] theorem State.setEngine_lamps (p : Prod2) (e : Engine) : (s.setEngine p e).lamps = s.lamps := rfl
@[simp] theorem State.setEngine_talk (p : Prod2) (e : Engine) : (s.setEngine p e).talk = s.talk := rfl
@[simp] theorem State.setEngine_gpio (p : Prod2) (e : Engine) : (s.setEngine p e).gpio = s.gpio := rfl
@[simp] theorem State.setEngine_store (p : Prod2) (e : Engine) : (s.setEngine p e).store = s.store := rfl
@[simp] theorem State.setEngine_link (p : Prod2) (e : Engine) : (s.setEngine p e).link = s.link := rfl
@[simp] theorem State.setEngine_pending (p : Prod2) (e : Engine) : (s.setEngine p e).pending = s.pending := rfl

@[simp] theorem State.setLoop_clock (l : LoopId) (x : Loop) : (s.setLoop l x).clock = s.clock := rfl
@[simp] theorem State.setLoop_map (l : LoopId) (x : Loop) : (s.setLoop l x).map = s.map := rfl
@[simp] theorem State.setLoop_xpt (l : LoopId) (x : Loop) : (s.setLoop l x).xpt = s.xpt := rfl
@[simp] theorem State.setLoop_fabric (l : LoopId) (x : Loop) : (s.setLoop l x).fabric = s.fabric := rfl
@[simp] theorem State.setLoop_mixers (l : LoopId) (x : Loop) : (s.setLoop l x).mixers = s.mixers := rfl
@[simp] theorem State.setLoop_engines (l : LoopId) (x : Loop) : (s.setLoop l x).engines = s.engines := rfl
@[simp] theorem State.setLoop_loops (l : LoopId) (x : Loop) : (s.setLoop l x).loops = s.loops.set l x := rfl
@[simp] theorem State.setLoop_roster (l : LoopId) (x : Loop) : (s.setLoop l x).roster = s.roster := rfl
@[simp] theorem State.setLoop_keymap (l : LoopId) (x : Loop) : (s.setLoop l x).keymap = s.keymap := rfl
@[simp] theorem State.setLoop_lamps (l : LoopId) (x : Loop) : (s.setLoop l x).lamps = s.lamps := rfl
@[simp] theorem State.setLoop_talk (l : LoopId) (x : Loop) : (s.setLoop l x).talk = s.talk := rfl
@[simp] theorem State.setLoop_gpio (l : LoopId) (x : Loop) : (s.setLoop l x).gpio = s.gpio := rfl
@[simp] theorem State.setLoop_store (l : LoopId) (x : Loop) : (s.setLoop l x).store = s.store := rfl
@[simp] theorem State.setLoop_link (l : LoopId) (x : Loop) : (s.setLoop l x).link = s.link := rfl
@[simp] theorem State.setLoop_pending (l : LoopId) (x : Loop) : (s.setLoop l x).pending = s.pending := rfl

@[simp] theorem State.setEntry_clock (p : PanelId) (e : RosterEntry) : (s.setEntry p e).clock = s.clock := rfl
@[simp] theorem State.setEntry_map (p : PanelId) (e : RosterEntry) : (s.setEntry p e).map = s.map := rfl
@[simp] theorem State.setEntry_xpt (p : PanelId) (e : RosterEntry) : (s.setEntry p e).xpt = s.xpt := rfl
@[simp] theorem State.setEntry_fabric (p : PanelId) (e : RosterEntry) : (s.setEntry p e).fabric = s.fabric := rfl
@[simp] theorem State.setEntry_mixers (p : PanelId) (e : RosterEntry) : (s.setEntry p e).mixers = s.mixers := rfl
@[simp] theorem State.setEntry_engines (p : PanelId) (e : RosterEntry) : (s.setEntry p e).engines = s.engines := rfl
@[simp] theorem State.setEntry_loops (p : PanelId) (e : RosterEntry) : (s.setEntry p e).loops = s.loops := rfl
@[simp] theorem State.setEntry_roster (p : PanelId) (e : RosterEntry) : (s.setEntry p e).roster = s.roster.setP p e := rfl
@[simp] theorem State.setEntry_keymap (p : PanelId) (e : RosterEntry) : (s.setEntry p e).keymap = s.keymap := rfl
@[simp] theorem State.setEntry_lamps (p : PanelId) (e : RosterEntry) : (s.setEntry p e).lamps = s.lamps := rfl
@[simp] theorem State.setEntry_talk (p : PanelId) (e : RosterEntry) : (s.setEntry p e).talk = s.talk := rfl
@[simp] theorem State.setEntry_gpio (p : PanelId) (e : RosterEntry) : (s.setEntry p e).gpio = s.gpio := rfl
@[simp] theorem State.setEntry_store (p : PanelId) (e : RosterEntry) : (s.setEntry p e).store = s.store := rfl
@[simp] theorem State.setEntry_link (p : PanelId) (e : RosterEntry) : (s.setEntry p e).link = s.link := rfl
@[simp] theorem State.setEntry_pending (p : PanelId) (e : RosterEntry) : (s.setEntry p e).pending = s.pending := rfl

@[simp] theorem State.setKeymap_clock (p : PanelId) (k : KeyMapEntry) : (s.setKeymap p k).clock = s.clock := rfl
@[simp] theorem State.setKeymap_map (p : PanelId) (k : KeyMapEntry) : (s.setKeymap p k).map = s.map := rfl
@[simp] theorem State.setKeymap_xpt (p : PanelId) (k : KeyMapEntry) : (s.setKeymap p k).xpt = s.xpt := rfl
@[simp] theorem State.setKeymap_fabric (p : PanelId) (k : KeyMapEntry) : (s.setKeymap p k).fabric = s.fabric := rfl
@[simp] theorem State.setKeymap_mixers (p : PanelId) (k : KeyMapEntry) : (s.setKeymap p k).mixers = s.mixers := rfl
@[simp] theorem State.setKeymap_engines (p : PanelId) (k : KeyMapEntry) : (s.setKeymap p k).engines = s.engines := rfl
@[simp] theorem State.setKeymap_loops (p : PanelId) (k : KeyMapEntry) : (s.setKeymap p k).loops = s.loops := rfl
@[simp] theorem State.setKeymap_roster (p : PanelId) (k : KeyMapEntry) : (s.setKeymap p k).roster = s.roster := rfl
@[simp] theorem State.setKeymap_keymap (p : PanelId) (k : KeyMapEntry) : (s.setKeymap p k).keymap = s.keymap.setP p k := rfl
@[simp] theorem State.setKeymap_lamps (p : PanelId) (k : KeyMapEntry) : (s.setKeymap p k).lamps = s.lamps := rfl
@[simp] theorem State.setKeymap_talk (p : PanelId) (k : KeyMapEntry) : (s.setKeymap p k).talk = s.talk := rfl
@[simp] theorem State.setKeymap_gpio (p : PanelId) (k : KeyMapEntry) : (s.setKeymap p k).gpio = s.gpio := rfl
@[simp] theorem State.setKeymap_store (p : PanelId) (k : KeyMapEntry) : (s.setKeymap p k).store = s.store := rfl
@[simp] theorem State.setKeymap_link (p : PanelId) (k : KeyMapEntry) : (s.setKeymap p k).link = s.link := rfl
@[simp] theorem State.setKeymap_pending (p : PanelId) (k : KeyMapEntry) : (s.setKeymap p k).pending = s.pending := rfl

@[simp] theorem State.setDestRec_clock (d : DestId) (x : Dest) : (s.setDestRec d x).clock = s.clock := rfl
@[simp] theorem State.setDestRec_map (d : DestId) (x : Dest) : (s.setDestRec d x).map = s.map := rfl
@[simp] theorem State.setDestRec_xpt (d : DestId) (x : Dest) : (s.setDestRec d x).xpt = { s.xpt with dests := s.xpt.dests.set d x } := rfl
@[simp] theorem State.setDestRec_fabric (d : DestId) (x : Dest) : (s.setDestRec d x).fabric = s.fabric := rfl
@[simp] theorem State.setDestRec_mixers (d : DestId) (x : Dest) : (s.setDestRec d x).mixers = s.mixers := rfl
@[simp] theorem State.setDestRec_engines (d : DestId) (x : Dest) : (s.setDestRec d x).engines = s.engines := rfl
@[simp] theorem State.setDestRec_loops (d : DestId) (x : Dest) : (s.setDestRec d x).loops = s.loops := rfl
@[simp] theorem State.setDestRec_roster (d : DestId) (x : Dest) : (s.setDestRec d x).roster = s.roster := rfl
@[simp] theorem State.setDestRec_keymap (d : DestId) (x : Dest) : (s.setDestRec d x).keymap = s.keymap := rfl
@[simp] theorem State.setDestRec_lamps (d : DestId) (x : Dest) : (s.setDestRec d x).lamps = s.lamps := rfl
@[simp] theorem State.setDestRec_talk (d : DestId) (x : Dest) : (s.setDestRec d x).talk = s.talk := rfl
@[simp] theorem State.setDestRec_gpio (d : DestId) (x : Dest) : (s.setDestRec d x).gpio = s.gpio := rfl
@[simp] theorem State.setDestRec_store (d : DestId) (x : Dest) : (s.setDestRec d x).store = s.store := rfl
@[simp] theorem State.setDestRec_link (d : DestId) (x : Dest) : (s.setDestRec d x).link = s.link := rfl
@[simp] theorem State.setDestRec_pending (d : DestId) (x : Dest) : (s.setDestRec d x).pending = s.pending := rfl

@[simp] theorem State.setCard_clock (c : CardId) (x : Card) : (s.setCard c x).clock = s.clock := rfl
@[simp] theorem State.setCard_map (c : CardId) (x : Card) : (s.setCard c x).map = s.map := rfl
@[simp] theorem State.setCard_xpt (c : CardId) (x : Card) : (s.setCard c x).xpt = s.xpt := rfl
@[simp] theorem State.setCard_fabric (c : CardId) (x : Card) : (s.setCard c x).fabric = { s.fabric with cards := s.fabric.cards.set c x } := rfl
@[simp] theorem State.setCard_mixers (c : CardId) (x : Card) : (s.setCard c x).mixers = s.mixers := rfl
@[simp] theorem State.setCard_engines (c : CardId) (x : Card) : (s.setCard c x).engines = s.engines := rfl
@[simp] theorem State.setCard_loops (c : CardId) (x : Card) : (s.setCard c x).loops = s.loops := rfl
@[simp] theorem State.setCard_roster (c : CardId) (x : Card) : (s.setCard c x).roster = s.roster := rfl
@[simp] theorem State.setCard_keymap (c : CardId) (x : Card) : (s.setCard c x).keymap = s.keymap := rfl
@[simp] theorem State.setCard_lamps (c : CardId) (x : Card) : (s.setCard c x).lamps = s.lamps := rfl
@[simp] theorem State.setCard_talk (c : CardId) (x : Card) : (s.setCard c x).talk = s.talk := rfl
@[simp] theorem State.setCard_gpio (c : CardId) (x : Card) : (s.setCard c x).gpio = s.gpio := rfl
@[simp] theorem State.setCard_store (c : CardId) (x : Card) : (s.setCard c x).store = s.store := rfl
@[simp] theorem State.setCard_link (c : CardId) (x : Card) : (s.setCard c x).link = s.link := rfl
@[simp] theorem State.setCard_pending (c : CardId) (x : Card) : (s.setCard c x).pending = s.pending := rfl

@[simp] theorem State.setFabricRx_clock (x : FabricRx) : (s.setFabricRx x).clock = s.clock := rfl
@[simp] theorem State.setFabricRx_map (x : FabricRx) : (s.setFabricRx x).map = s.map := rfl
@[simp] theorem State.setFabricRx_xpt (x : FabricRx) : (s.setFabricRx x).xpt = s.xpt := rfl
@[simp] theorem State.setFabricRx_fabric (x : FabricRx) : (s.setFabricRx x).fabric = { s.fabric with rx := x } := rfl
@[simp] theorem State.setFabricRx_mixers (x : FabricRx) : (s.setFabricRx x).mixers = s.mixers := rfl
@[simp] theorem State.setFabricRx_engines (x : FabricRx) : (s.setFabricRx x).engines = s.engines := rfl
@[simp] theorem State.setFabricRx_loops (x : FabricRx) : (s.setFabricRx x).loops = s.loops := rfl
@[simp] theorem State.setFabricRx_roster (x : FabricRx) : (s.setFabricRx x).roster = s.roster := rfl
@[simp] theorem State.setFabricRx_keymap (x : FabricRx) : (s.setFabricRx x).keymap = s.keymap := rfl
@[simp] theorem State.setFabricRx_lamps (x : FabricRx) : (s.setFabricRx x).lamps = s.lamps := rfl
@[simp] theorem State.setFabricRx_talk (x : FabricRx) : (s.setFabricRx x).talk = s.talk := rfl
@[simp] theorem State.setFabricRx_gpio (x : FabricRx) : (s.setFabricRx x).gpio = s.gpio := rfl
@[simp] theorem State.setFabricRx_store (x : FabricRx) : (s.setFabricRx x).store = s.store := rfl
@[simp] theorem State.setFabricRx_link (x : FabricRx) : (s.setFabricRx x).link = s.link := rfl
@[simp] theorem State.setFabricRx_pending (x : FabricRx) : (s.setFabricRx x).pending = s.pending := rfl

@[simp] theorem State.reach_clock (n : Nat) : (s.reach n).clock = max s.clock n := rfl
@[simp] theorem State.reach_map (n : Nat) : (s.reach n).map = s.map := rfl
@[simp] theorem State.reach_xpt (n : Nat) : (s.reach n).xpt = s.xpt := rfl
@[simp] theorem State.reach_fabric (n : Nat) : (s.reach n).fabric = s.fabric := rfl
@[simp] theorem State.reach_mixers (n : Nat) : (s.reach n).mixers = s.mixers := rfl
@[simp] theorem State.reach_engines (n : Nat) : (s.reach n).engines = s.engines := rfl
@[simp] theorem State.reach_loops (n : Nat) : (s.reach n).loops = s.loops := rfl
@[simp] theorem State.reach_roster (n : Nat) : (s.reach n).roster = s.roster := rfl
@[simp] theorem State.reach_keymap (n : Nat) : (s.reach n).keymap = s.keymap := rfl
@[simp] theorem State.reach_lamps (n : Nat) : (s.reach n).lamps = s.lamps := rfl
@[simp] theorem State.reach_talk (n : Nat) : (s.reach n).talk = s.talk := rfl
@[simp] theorem State.reach_gpio (n : Nat) : (s.reach n).gpio = s.gpio := rfl
@[simp] theorem State.reach_store (n : Nat) : (s.reach n).store = s.store := rfl
@[simp] theorem State.reach_link (n : Nat) : (s.reach n).link = s.link := rfl
@[simp] theorem State.reach_pending (n : Nat) : (s.reach n).pending = s.pending := rfl

@[simp] theorem State.raise_clock (n : Notice) : (s.raise n).clock = s.clock := rfl
@[simp] theorem State.raise_map (n : Notice) : (s.raise n).map = s.map := rfl
@[simp] theorem State.raise_xpt (n : Notice) : (s.raise n).xpt = s.xpt := rfl
@[simp] theorem State.raise_fabric (n : Notice) : (s.raise n).fabric = s.fabric := rfl
@[simp] theorem State.raise_mixers (n : Notice) : (s.raise n).mixers = s.mixers := rfl
@[simp] theorem State.raise_engines (n : Notice) : (s.raise n).engines = s.engines := rfl
@[simp] theorem State.raise_loops (n : Notice) : (s.raise n).loops = s.loops := rfl
@[simp] theorem State.raise_roster (n : Notice) : (s.raise n).roster = s.roster := rfl
@[simp] theorem State.raise_keymap (n : Notice) : (s.raise n).keymap = s.keymap := rfl
@[simp] theorem State.raise_lamps (n : Notice) : (s.raise n).lamps = s.lamps := rfl
@[simp] theorem State.raise_talk (n : Notice) : (s.raise n).talk = s.talk := rfl
@[simp] theorem State.raise_gpio (n : Notice) : (s.raise n).gpio = s.gpio := rfl
@[simp] theorem State.raise_store (n : Notice) : (s.raise n).store = s.store := rfl
@[simp] theorem State.raise_link (n : Notice) : (s.raise n).link = s.link.notify n := rfl
@[simp] theorem State.raise_pending (n : Notice) : (s.raise n).pending = s.pending := rfl

end Sys2Proof.Machine
end

