-- ==== Sys2Proof/Laws/Parts.lean ====
section
/-! SUPPORT. For each shared operation, once, the parts of the state it can touch: every other part is as before. A frame is proved by
citing these and unfolding none of the operations. -/

namespace Sys2Proof.Machine

/-! ## The plain updates -/

@[simp] theorem State.onLink_part (s : State) (f : Link → Link) (p : Part) (h0 : p ≠ .link) :
    (s.onLink f).part p = s.part p := by
  cases p <;> first | rfl | contradiction

@[simp] theorem State.onMap_part (s : State) (f : SourceMap → SourceMap) (p : Part) (h0 : p ≠ .map) :
    (s.onMap f).part p = s.part p := by
  cases p <;> first | rfl | contradiction

@[simp] theorem State.onXpt_part (s : State) (f : Crosspoint → Crosspoint) (p : Part) (h0 : p ≠ .xpt) :
    (s.onXpt f).part p = s.part p := by
  cases p <;> first | rfl | contradiction

@[simp] theorem State.onFabric_part (s : State) (f : Fabric → Fabric) (p : Part) (h0 : p ≠ .fabric) :
    (s.onFabric f).part p = s.part p := by
  cases p <;> first | rfl | contradiction

@[simp] theorem State.onTalk_part (s : State) (f : Talk → Talk) (p : Part) (h0 : p ≠ .talk) :
    (s.onTalk f).part p = s.part p := by
  cases p <;> first | rfl | contradiction

@[simp] theorem State.onGpio_part (s : State) (f : Gpio → Gpio) (p : Part) (h0 : p ≠ .gpio) :
    (s.onGpio f).part p = s.part p := by
  cases p <;> first | rfl | contradiction

@[simp] theorem State.onStore_part (s : State) (f : Store → Store) (p : Part) (h0 : p ≠ .store) :
    (s.onStore f).part p = s.part p := by
  cases p <;> first | rfl | contradiction

@[simp] theorem State.onLamps_part (s : State) (f : Lamps → Lamps) (p : Part) (h0 : p ≠ .lamps) :
    (s.onLamps f).part p = s.part p := by
  cases p <;> first | rfl | contradiction

@[simp] theorem State.setMixer_part (s : State) (q : Prod2) (m : MixerPort) (p : Part) (h0 : p ≠ .mixers) :
    (s.setMixer q m).part p = s.part p := by
  cases p <;> first | rfl | contradiction

@[simp] theorem State.setEngine_part (s : State) (q : Prod2) (e : Engine) (p : Part) (h0 : p ≠ .engines) :
    (s.setEngine q e).part p = s.part p := by
  cases p <;> first | rfl | contradiction

@[simp] theorem State.setLoop_part (s : State) (l : LoopId) (x : Loop) (p : Part) (h0 : p ≠ .loops) :
    (s.setLoop l x).part p = s.part p := by
  cases p <;> first | rfl | contradiction

@[simp] theorem State.setEntry_part (s : State) (q : PanelId) (e : RosterEntry) (p : Part) (h0 : p ≠ .roster) :
    (s.setEntry q e).part p = s.part p := by
  cases p <;> first | rfl | contradiction

@[simp] theorem State.setKeymap_part (s : State) (q : PanelId) (k : KeyMapEntry) (p : Part) (h0 : p ≠ .keymap) :
    (s.setKeymap q k).part p = s.part p := by
  cases p <;> first | rfl | contradiction


/-! ## Folds -/

theorem forEach_part {α : Type} (p : Part) (f : State → α → State) (h : ∀ s x, (f s x).part p = s.part p) (xs : List α) (s : State) :
    (forEach xs f s).part p = s.part p := by
  unfold forEach
  induction xs generalizing s with
  | nil => rfl
  | cons x xs ih => simp [ih, h]

theorem forEach_part_of {α : Type} {p : Part} {f : State → α → State} {v : p.Holds} {s : State} (hs : s.part p = v) (xs : List α)
    (h : ∀ s x, (f s x).part p = s.part p) : (forEach xs f s).part p = v := by rw [forEach_part p f h, hs]

/-! ## The operations, in the order of their files -/

@[simp] theorem State.reach_part (s : State) (e : Nat) (p : Part) (h0 : p ≠ .clock) :
    (s.reach e).part p = s.part p := by
  cases p <;> first | rfl | contradiction

@[simp] theorem State.raise_part (s : State) (n : Notice) (p : Part) (h0 : p ≠ .link) :
    (s.raise n).part p = s.part p := by
  unfold State.raise
  simp [*]

@[simp] theorem State.raiseIf_part (s : State) (c : Bool) (n : Notice) (p : Part) (h0 : p ≠ .link) :
    (s.raiseIf c n).part p = s.part p := by
  unfold State.raiseIf
  (repeat' split) <;> simp [*]

@[simp] theorem State.setDestRec_part (s : State) (d : DestId) (x : Dest) (p : Part) (h0 : p ≠ .xpt) :
    (s.setDestRec d x).part p = s.part p := by
  unfold State.setDestRec
  simp [*]

@[simp] theorem State.setCard_part (s : State) (c : CardId) (x : Card) (p : Part) (h0 : p ≠ .fabric) :
    (s.setCard c x).part p = s.part p := by
  unfold State.setCard
  simp [*]

@[simp] theorem State.startRun_part (s : State) (q : Prod2) (p : Part) (h0 : p ≠ .engines) :
    (s.startRun q).part p = s.part p := by
  unfold State.startRun
  simp [*]

@[simp] theorem State.trigger_part (s : State) (q : Prod2) (p : Part) (h0 : p ≠ .engines) :
    (s.trigger q).part p = s.part p := by
  unfold State.trigger
  (try dsimp only)
  (repeat' split) <;> simp [*]

@[simp] theorem State.triggerIf_part (s : State) (c : Bool) (q : Prod2) (p : Part) (h0 : p ≠ .engines) :
    (s.triggerIf c q).part p = s.part p := by
  unfold State.triggerIf
  (repeat' split) <;> simp [*]

@[simp] theorem State.triggers_part (s : State) (f : Prod2 → Bool) (p : Part) (h0 : p ≠ .engines) :
    (s.triggers f).part p = s.part p := by
  unfold State.triggers
  simp [*]

@[simp] theorem State.triggerRouting_part (s : State) (d : DestId) (p : Part) (h0 : p ≠ .engines) :
    (s.triggerRouting d).part p = s.part p := by
  unfold State.triggerRouting
  simp [*]

@[simp] theorem State.offerTake_part (s : State) (d : DestId) (f : Feed) (o : TakeOrigin) (c : Bool) (p : Part) (h0 : p ≠ .xpt) :
    (s.offerTake d f o c).1.part p = s.part p := by
  unfold State.offerTake
  (repeat' split) <;> simp [*]

@[simp] theorem State.offerGroup_part (s : State) (n : SalvoId) (w : Identity) (es : List SalvoEntry) (p : Part) (h0 : p ≠ .xpt) :
    (s.offerGroup n w es).1.part p = s.part p := by
  unfold State.offerGroup
  suffices h : ∀ acc : State × List RefusedEntry,
      ((es.foldl (fun acc e =>
        match acc.1.offerTake e.dest e.source (.salvo n w) false with
        | (t, none) => (t, acc.2)
        | (t, some r) => (t, acc.2 ++ [⟨e, r⟩])) acc).1).part p = acc.1.part p by exact h (s, [])
  induction es with
  | nil => intro acc; rfl
  | cons e es ih =>
    intro acc
    rw [List.foldl_cons, ih]
    have h := State.offerTake_part acc.1 e.dest e.source (.salvo n w) false p h0
    split <;> simp_all

@[simp] theorem State.raiseRefused_part (s : State) (n : SalvoId) (w : Identity) (rs : List RefusedEntry) (p : Part) (h0 : p ≠ .link)
    :
    (s.raiseRefused n w rs).part p = s.part p := by
  unfold State.raiseRefused
  simp [*]

@[simp] theorem State.applyOutcome_part (s : State) (d : DestId) (b : Bool) (o : Verify) (p : Part) (h0 : p ≠ .xpt) (h1 : p ≠
    .engines) (h2 : p ≠ .gpio) (h3 : p ≠ .link) :
    (s.applyOutcome d b o).part p = s.part p := by
  unfold State.applyOutcome
  (try dsimp only)
  (repeat' split) <;> simp [*]

@[simp] theorem State.applyReadback_part (s : State) (d : DestId) (f : Feed) (p : Part) (h0 : p ≠ .xpt) (h1 : p ≠ .engines) (h2 : p ≠
    .gpio) :
    (s.applyReadback d f).part p = s.part p := by
  unfold State.applyReadback
  (try dsimp only)
  (repeat' split) <;> simp [*]

@[simp] theorem State.adoptDest_part (s : State) (d : DestId) (f : Feed) (p : Part) (h0 : p ≠ .xpt) (h1 : p ≠ .gpio) :
    (s.adoptDest d f).part p = s.part p := by
  unfold State.adoptDest
  simp [*]

@[simp] theorem State.adoptAbsent_part (s : State) (d : DestId) (p : Part) (h0 : p ≠ .xpt) (h1 : p ≠ .gpio) :
    (s.adoptAbsent d).part p = s.part p := by
  unfold State.adoptAbsent
  simp [*]

@[simp] theorem State.setLock_part (s : State) (d : DestId) (k : Option Lock) (p : Part) (h0 : p ≠ .xpt) :
    (s.setLock d k).part p = s.part p := by
  unfold State.setLock
  simp [*]

@[simp] theorem State.acquireLock_part (s : State) (d : DestId) (w : Identity) (p : Part) (h0 : p ≠ .xpt) (h1 : p ≠ .link) :
    (s.acquireLock d w).part p = s.part p := by
  unfold State.acquireLock
  simp [*]

@[simp] theorem State.removeLock_part (s : State) (d : DestId) (w : Identity) (c : LockChange) (p : Part) (h0 : p ≠ .xpt) (h1 : p ≠
    .link) :
    (s.removeLock d w c).part p = s.part p := by
  unfold State.removeLock
  simp [*]

@[simp] theorem State.locksLost_part (s : State) (q : PanelId) (p : Part) (h0 : p ≠ .xpt) (h1 : p ≠ .link) :
    (s.locksLost q).part p = s.part p := by
  unfold State.locksLost
  (try dsimp only)
  simp [*, forEach_part p]

@[simp] theorem State.locksActive_part (s : State) (q : PanelId) (p : Part) (h0 : p ≠ .xpt) (h1 : p ≠ .link) :
    (s.locksActive q).part p = s.part p := by
  unfold State.locksActive
  (try dsimp only)
  simp [*, forEach_part p]

@[simp] theorem State.locksExpire_part (s : State) (w : Identity) (t : Nat) (p : Part) (h0 : p ≠ .xpt) (h1 : p ≠ .link) :
    (s.locksExpire w t).part p = s.part p := by
  unfold State.locksExpire
  (try dsimp only)
  simp [*, forEach_part p]

@[simp] theorem State.pressDest_part (s : State) (q : PanelId) (d : DestId) (p : Part) (h0 : p ≠ .roster) :
    (s.pressDest q d).part p = s.part p := by
  unfold State.pressDest
  simp [*]

@[simp] theorem State.setRefused_part (s : State) (q : PanelId) (k : KeyId) (c : Bool) (p : Part) (h0 : p ≠ .lamps) :
    (s.setRefused q k c).part p = s.part p := by
  unfold State.setRefused
  simp [*]

@[simp] theorem State.pressSource_part (s : State) (q : PanelId) (k : KeyId) (f : Feed) (p : Part) (h0 : p ≠ .xpt) (h1 : p ≠ .lamps) :
    (s.pressSource q k f).part p = s.part p := by
  unfold State.pressSource
  split
  · simp [*]
  · rename_i d _
    have h := State.offerTake_part s d f (.panel q) false p h0
    split <;> simp_all

@[simp] theorem State.pressLock_part (s : State) (q : PanelId) (p : Part) (h0 : p ≠ .xpt) (h1 : p ≠ .link) :
    (s.pressLock q).part p = s.part p := by
  unfold State.pressLock
  (repeat' split) <;> simp [*]

@[simp] theorem State.restartCrosspoint_part (s : State) (p : Part) (h0 : p ≠ .xpt) (h1 : p ≠ .link) :
    (s.restartCrosspoint).part p = s.part p := by
  unfold State.restartCrosspoint
  (try dsimp only)
  simp [*]

@[simp] theorem State.stageBoot_part (s : State) (p : Part) (h0 : p ≠ .store) (h1 : p ≠ .xpt) (h2 : p ≠ .link) :
    (s.stageBoot).part p = s.part p := by
  unfold State.stageBoot
  (try dsimp only)
  (repeat' split) <;> simp [*]

@[simp] theorem State.pressSalvo_part (s : State) (q : PanelId) (k : KeyId) (n : SalvoId) (p : Part) (h0 : p ≠ .lamps) (h1 : p ≠ .xpt)
    (h2 : p ≠ .link) :
    (s.pressSalvo q k n).part p = s.part p := by
  unfold State.pressSalvo
  (try dsimp only)
  (repeat' split) <;> simp [*]

@[simp] theorem State.scanEnds_part (s : State) (p : Part) (h0 : p ≠ .store) (h1 : p ≠ .xpt) (h2 : p ≠ .link) :
    (s.scanEnds).part p = s.part p := by
  unfold State.scanEnds
  (try dsimp only)
  simp [*]

@[simp] theorem State.programmed_part (s : State) (c : Bool) (p : Part) (h0 : p ≠ .store) (h1 : p ≠ .xpt) (h2 : p ≠ .link) :
    (s.programmed c).part p = s.part p := by
  unfold State.programmed
  (try dsimp only)
  (repeat' split) <;> simp [*]

@[simp] theorem State.handXset_part (s : State) (d : DestId) (f : Feed) (b : Bool) (p : Part) (h0 : p ≠ .fabric) (h1 : p ≠ .xpt) (h2 :
    p ≠ .engines) (h3 : p ≠ .gpio) (h4 : p ≠ .link) :
    (s.handXset d f b).part p = s.part p := by
  unfold State.handXset
  (repeat' split) <;> simp [*]

@[simp] theorem State.handAset_part (s : State) (n : PortId) (p : Part) (h0 : p ≠ .fabric) :
    (s.handAset n).part p = s.part p := by
  unfold State.handAset
  (repeat' split) <;> simp [*]

@[simp] theorem State.handImages_part (s : State) (c : CardId) (p : Part) (h0 : p ≠ .fabric) :
    (s.handImages c).part p = s.part p := by
  unfold State.handImages
  simp [*, forEach_part p]

@[simp] theorem State.adoptTally_part (s : State) (q : Prod2) (p : Part) (h0 : p ≠ .engines) :
    (s.adoptTally q).part p = s.part p := by
  unfold State.adoptTally
  simp [*]

@[simp] theorem State.checkAdoption_part (s : State) (p : Part) (h0 : p ≠ .xpt) (h1 : p ≠ .store) (h2 : p ≠ .link) (h3 : p ≠ .engines)
    :
    (s.checkAdoption).part p = s.part p := by
  unfold State.checkAdoption
  (repeat' split) <;> simp [*]

@[simp] theorem State.reportRemoved_part (s : State) (r : VideoRec) (p : Part) (h0 : p ≠ .xpt) (h1 : p ≠ .engines) (h2 : p ≠ .gpio)
    (h3 : p ≠ .link) :
    (s.reportRemoved r).part p = s.part p := by
  unfold State.reportRemoved
  (repeat' split) <;> simp [*]

@[simp] theorem State.abandonAdoption_part (s : State) (c : CardId) (p : Part) (h0 : p ≠ .fabric) (h1 : p ≠ .xpt) (h2 : p ≠ .gpio) :
    (s.abandonAdoption c).part p = s.part p := by
  unfold State.abandonAdoption
  (try dsimp only)
  simp [*, forEach_part p]

@[simp] theorem State.becomeAbsent_part (s : State) (c : CardId) (w : CardChange) (p : Part) (h0 : p ≠ .fabric) (h1 : p ≠ .xpt) (h2 :
    p ≠ .engines) (h3 : p ≠ .gpio) (h4 : p ≠ .link) :
    (s.becomeAbsent c w).part p = s.part p := by
  unfold State.becomeAbsent
  (try dsimp only)
  simp [*, forEach_part p]

@[simp] theorem State.complain_part (s : State) (c : CardId) (b : Bool) (p : Part) (h0 : p ≠ .fabric) (h1 : p ≠ .link) :
    (s.complain c b).part p = s.part p := by
  unfold State.complain
  (repeat' split) <;> simp [*]

@[simp] theorem State.becomePresent_part (s : State) (c : CardId) (p : Part) (h0 : p ≠ .fabric) (h1 : p ≠ .gpio) (h2 : p ≠ .link) :
    (s.becomePresent c).part p = s.part p := by
  unfold State.becomePresent
  simp [*]

@[simp] theorem State.welcome_part (s : State) (c : CardId) (b : Bool) (p : Part) (h0 : p ≠ .fabric) :
    (s.welcome c b).part p = s.part p := by
  unfold State.welcome
  (try dsimp only)
  (repeat' split) <;> simp [*]

@[simp] theorem State.failProbe_part (s : State) (c : CardId) (p : Part) (h0 : p ≠ .fabric) (h1 : p ≠ .xpt) (h2 : p ≠ .engines) (h3 :
    p ≠ .gpio) (h4 : p ≠ .link) :
    (s.failProbe c).part p = s.part p := by
  unfold State.failProbe
  (try dsimp only)
  (repeat' split) <;> simp [*, forEach_part p]

@[simp] theorem State.probeAnswered_part (s : State) (c : CardId) (b : Bool) (p : Part) (h0 : p ≠ .fabric) (h1 : p ≠ .xpt) (h2 : p ≠
    .engines) (h3 : p ≠ .gpio) (h4 : p ≠ .link) :
    (s.probeAnswered c b).part p = s.part p := by
  unfold State.probeAnswered
  (try dsimp only)
  (repeat' split) <;> simp [*]

@[simp] theorem State.closeExchange_part (s : State) (c : CardId) (p : Part) (h0 : p ≠ .fabric) :
    (s.closeExchange c).part p = s.part p := by
  unfold State.closeExchange
  simp [*]

@[simp] theorem State.closeAnswered_part (s : State) (c : CardId) (p : Part) (h0 : p ≠ .fabric) :
    (s.closeAnswered c).part p = s.part p := by
  unfold State.closeAnswered
  simp [*]

@[simp] theorem State.recordSent_part (s : State) (p : Part) (h0 : p ≠ .fabric) :
    (s.recordSent).part p = s.part p := by
  unfold State.recordSent
  (repeat' split) <;> simp [*]

@[simp] theorem State.takeXecho_part (s : State) (d : DestId) (f : Feed) (b : Bool) (p : Part) (h0 : p ≠ .fabric) (h1 : p ≠ .xpt) (h2
    : p ≠ .engines) (h3 : p ≠ .gpio) (h4 : p ≠ .link) (h5 : p ≠ .store) :
    (s.takeXecho d f b).part p = s.part p := by
  unfold State.takeXecho
  (try dsimp only)
  (repeat' split) <;> simp [*]

@[simp] theorem State.takeAack_part (s : State) (n : PortId) (p : Part) (h0 : p ≠ .fabric) :
    (s.takeAack n).part p = s.part p := by
  unfold State.takeAack
  (repeat' split) <;> simp [*]

@[simp] theorem State.takePresent_part (s : State) (c : CardId) (b : Bool) (p : Part) (h0 : p ≠ .fabric) (h1 : p ≠ .xpt) (h2 : p ≠
    .engines) (h3 : p ≠ .gpio) (h4 : p ≠ .link) (h5 : p ≠ .store) :
    (s.takePresent c b).part p = s.part p := by
  unfold State.takePresent
  (repeat' split) <;> simp [*]

@[simp] theorem State.setFabricRx_part (s : State) (x : FabricRx) (p : Part) (h0 : p ≠ .fabric) :
    (s.setFabricRx x).part p = s.part p := by
  unfold State.setFabricRx
  simp [*]

@[simp] theorem State.takeRecord_part (s : State) (r : CardRecord) (p : Part) (h0 : p ≠ .fabric) (h1 : p ≠ .xpt) (h2 : p ≠ .engines)
    (h3 : p ≠ .gpio) (h4 : p ≠ .link) (h5 : p ≠ .store) :
    (s.takeRecord r).part p = s.part p := by
  unfold State.takeRecord
  (repeat' split) <;> simp [*]

@[simp] theorem State.wholeRecord_part (s : State) (r : CardRecord) (p : Part) (h0 : p ≠ .fabric) (h1 : p ≠ .xpt) (h2 : p ≠ .engines)
    (h3 : p ≠ .gpio) (h4 : p ≠ .link) (h5 : p ≠ .store) :
    (s.wholeRecord r).part p = s.part p := by
  unfold State.wholeRecord
  simp [*]

@[simp] theorem State.exchangeTimedOut_part (s : State) (c : CardId) (x : Exchange) (p : Part) (h0 : p ≠ .fabric) (h1 : p ≠ .xpt) (h2
    : p ≠ .engines) (h3 : p ≠ .gpio) (h4 : p ≠ .link) :
    (s.exchangeTimedOut c x).part p = s.part p := by
  unfold State.exchangeTimedOut State.countTimeout
  dsimp only
  (repeat' split) <;> simp [*]

@[simp] theorem State.restartFabric_part (s : State) (p : Part) (h0 : p ≠ .fabric) :
    (s.restartFabric).part p = s.part p := by
  unfold State.restartFabric
  simp [*, forEach_part p]

@[simp] theorem State.dispatch_part (s : State) (e : TakeEntry) (p : Part) (h0 : p ≠ .fabric) (h1 : p ≠ .xpt) (h2 : p ≠ .engines) (h3
    : p ≠ .gpio) (h4 : p ≠ .link) :
    (s.dispatch e).part p = s.part p := by
  unfold State.dispatch
  (try dsimp only)
  (repeat' split) <;> simp [*]

@[simp] theorem State.retry_part (s : State) (d : DestId) (p : Part) (h0 : p ≠ .fabric) (h1 : p ≠ .xpt) (h2 : p ≠ .engines) (h3 : p ≠
    .gpio) (h4 : p ≠ .link) :
    (s.retry d).part p = s.part p := by
  unfold State.retry
  (try dsimp only)
  simp [*]

@[simp] theorem State.frameEvent_part (s : State) (p : Part) (h0 : p ≠ .fabric) (h1 : p ≠ .xpt) (h2 : p ≠ .engines) (h3 : p ≠ .gpio)
    (h4 : p ≠ .link) :
    (s.frameEvent).part p = s.part p := by
  have h : ∀ (es : List TakeEntry) (w : Dispatched), (es.foldl Dispatched.take w).state.part p = w.state.part p := by
    intro es
    induction es with
    | nil => intro w; rfl
    | cons e es ih => intro w; rw [List.foldl_cons, ih]; unfold Dispatched.take; dsimp only; split <;> simp [*]
  unfold State.frameEvent
  split
  · simp [*, forEach_part p]
  · rfl

@[simp] theorem State.setWatcher_part (s : State) (w : Watcher) (p : Part) (h0 : p ≠ .xpt) :
    (s.setWatcher w).part p = s.part p := by
  unfold State.setWatcher
  simp [*]

@[simp] theorem State.pulse_part (s : State) (p : Part) (h0 : p ≠ .fabric) (h1 : p ≠ .xpt) (h2 : p ≠ .engines) (h3 : p ≠ .gpio) (h4 :
    p ≠ .link) :
    (s.pulse).part p = s.part p := by
  unfold State.pulse
  (try dsimp only)
  (repeat' split) <;> simp [*]

@[simp] theorem State.frameLost_part (s : State) (p : Part) (h0 : p ≠ .fabric) (h1 : p ≠ .xpt) (h2 : p ≠ .engines) (h3 : p ≠ .gpio)
    (h4 : p ≠ .link) :
    (s.frameLost).part p = s.part p := by
  unfold State.frameLost
  (try dsimp only)
  simp [*]

@[simp] theorem State.freeRunTick_part (s : State) (p : Part) (h0 : p ≠ .fabric) (h1 : p ≠ .xpt) (h2 : p ≠ .engines) (h3 : p ≠ .gpio)
    (h4 : p ≠ .link) :
    (s.freeRunTick).part p = s.part p := by
  unfold State.freeRunTick
  (try dsimp only)
  (repeat' split) <;> simp [*]

@[simp] theorem State.raiseItems_part (s : State) (c : Bool) (xs : List TalkItem) (p : Part) (h0 : p ≠ .link) :
    (s.raiseItems c xs).part p = s.part p := by
  unfold State.raiseItems
  simp [*, forEach_part p]

@[simp] theorem State.finishTalk_part (s : State) (w : Work) (p : Part) (h0 : p ≠ .talk) (h1 : p ≠ .fabric) (h2 : p ≠ .gpio) (h3 : p ≠
    .link) :
    (s.finishTalk w).part p = s.part p := by
  unfold State.finishTalk
  have h : ({ s with talk := w.talk } : State).part p = s.part p := by cases p <;> first | rfl | contradiction
  simp [*, forEach_part p]

@[simp] theorem State.talkEvent_part (s : State) (f : Work → Work) (p : Part) (h0 : p ≠ .talk) (h1 : p ≠ .fabric) (h2 : p ≠ .gpio) (h3
    : p ≠ .link) :
    (s.talkEvent f).part p = s.part p := by
  unfold State.talkEvent
  simp [*]

@[simp] theorem State.pressTalkIdle_part (s : State) (q : PanelId) (k : KeyId) (t : Target) (b : Bool) (p : Part) (h0 : p ≠ .talk) (h1
    : p ≠ .fabric) (h2 : p ≠ .gpio) (h3 : p ≠ .link) (h4 : p ≠ .lamps) :
    (s.pressTalkIdle q k t b).part p = s.part p := by
  unfold State.pressTalkIdle
  (try dsimp only)
  (repeat' split) <;> simp [*]

@[simp] theorem State.pressTalk_part (s : State) (q : PanelId) (k : KeyId) (t : Target) (b : Bool) (p : Part) (h0 : p ≠ .talk) (h1 : p
    ≠ .fabric) (h2 : p ≠ .gpio) (h3 : p ≠ .link) (h4 : p ≠ .lamps) :
    (s.pressTalk q k t b).part p = s.part p := by
  unfold State.pressTalk
  (try dsimp only)
  (repeat' split) <;> simp [*]

@[simp] theorem State.releaseTalk_part (s : State) (q : PanelId) (k : KeyId) (b : Bool) (p : Part) (h0 : p ≠ .talk) (h1 : p ≠ .fabric)
    (h2 : p ≠ .gpio) (h3 : p ≠ .link) :
    (s.releaseTalk q k b).part p = s.part p := by
  unfold State.releaseTalk
  (try dsimp only)
  (repeat' split) <;> simp [*]

@[simp] theorem State.pressListen_part (s : State) (q : PanelId) (k : KeyId) (t : Target) (p : Part) (h0 : p ≠ .talk) (h1 : p ≠
    .fabric) (h2 : p ≠ .gpio) (h3 : p ≠ .link) :
    (s.pressListen q k t).part p = s.part p := by
  unfold State.pressListen
  (try dsimp only)
  (repeat' split) <;> simp [*]

@[simp] theorem State.talkSilent_part (s : State) (q : PanelId) (p : Part) (h0 : p ≠ .talk) (h1 : p ≠ .fabric) (h2 : p ≠ .gpio) (h3 :
    p ≠ .link) :
    (s.talkSilent q).part p = s.part p := by
  unfold State.talkSilent
  (try dsimp only)
  simp [*]

@[simp] theorem State.talkLost_part (s : State) (q : PanelId) (p : Part) (h0 : p ≠ .talk) (h1 : p ≠ .fabric) (h2 : p ≠ .gpio) (h3 : p
    ≠ .link) :
    (s.talkLost q).part p = s.part p := by
  unfold State.talkLost
  (try dsimp only)
  simp [*]

@[simp] theorem State.latchExpires_part (s : State) (q : PanelId) (k : KeyId) (p : Part) (h0 : p ≠ .talk) (h1 : p ≠ .fabric) (h2 : p ≠
    .gpio) (h3 : p ≠ .link) :
    (s.latchExpires q k).part p = s.part p := by
  unfold State.latchExpires
  (try dsimp only)
  simp [*]

@[simp] theorem State.deliverTalk_part (s : State) (q : Prod2) (c : Tbl 128 Colour) (p : Part) (h0 : p ≠ .talk) (h1 : p ≠ .fabric) (h2
    : p ≠ .gpio) (h3 : p ≠ .link) :
    (s.deliverTalk q c).part p = s.part p := by
  unfold State.deliverTalk
  (try dsimp only)
  simp [*]

@[simp] theorem State.restartTalk_part (s : State) (p : Part) (h0 : p ≠ .talk) (h1 : p ≠ .fabric) (h2 : p ≠ .gpio) (h3 : p ≠ .link) :
    (s.restartTalk).part p = s.part p := by
  unfold State.restartTalk
  (try dsimp only)
  simp [*]

@[simp] theorem State.compose_part (s : State) (p : Part) (h0 : p ≠ .lamps) :
    (s.compose).part p = s.part p := by
  unfold State.compose
  simp [*]

@[simp] theorem State.settle_part (s : State) (p : Part) (h0 : p ≠ .fabric) (h1 : p ≠ .lamps) :
    (s.settle).part p = s.part p := by
  unfold State.settle
  simp [*]

@[simp] theorem State.raiseCycle_part (s : State) (q : Prod2) (o n : Option Cut) (p : Part) (h0 : p ≠ .link) :
    (s.raiseCycle q o n).part p = s.part p := by
  unfold State.raiseCycle
  (repeat' split) <;> simp [*]

@[simp] theorem State.putPublished_part (s : State) (q : Prod2) (x : Snapshot) (p : Part) (h0 : p ≠ .engines) :
    (s.putPublished q x).part p = s.part p := by
  unfold State.putPublished
  (try dsimp only)
  simp [*]

@[simp] theorem State.deliver_part (s : State) (q : Prod2) (p : Part) (h0 : p ≠ .talk) (h1 : p ≠ .fabric) (h2 : p ≠ .gpio) (h3 : p ≠
    .link) :
    (s.deliver q).part p = s.part p := by
  unfold State.deliver
  (try dsimp only)
  simp [*]

@[simp] theorem State.nextRun_part (s : State) (q : Prod2) (p : Part) (h0 : p ≠ .engines) :
    (s.nextRun q).part p = s.part p := by
  unfold State.nextRun
  (try dsimp only)
  (repeat' split) <;> simp [*]

@[simp] theorem State.publish_part (s : State) (q : Prod2) (x : Snapshot) (p : Part) (h0 : p ≠ .engines) (h1 : p ≠ .talk) (h2 : p ≠
    .fabric) (h3 : p ≠ .gpio) (h4 : p ≠ .link) :
    (s.publish q x).part p = s.part p := by
  unfold State.publish
  (try dsimp only)
  simp [*]

@[simp] theorem State.setGpiRec_part (s : State) (i : GpiId) (g : Gpi) (p : Part) (h0 : p ≠ .gpio) :
    (s.setGpiRec i g).part p = s.part p := by
  unfold State.setGpiRec
  simp [*]

@[simp] theorem State.setArm_part (s : State) (d : DestId) (b : Bool) (p : Part) (h0 : p ≠ .map) (h1 : p ≠ .engines) :
    (s.setArm d b).part p = s.part p := by
  unfold State.setArm
  (try dsimp only)
  (repeat' split) <;> simp [*]

@[simp] theorem State.handChange_part (s : State) (i : GpiId) (p : Part) (h0 : p ≠ .map) (h1 : p ≠ .engines) (h2 : p ≠ .talk) (h3 : p
    ≠ .fabric) (h4 : p ≠ .gpio) (h5 : p ≠ .link) :
    (s.handChange i).part p = s.part p := by
  unfold State.handChange
  (try dsimp only)
  (repeat' split) <;> simp [*]

@[simp] theorem State.debounce_part (s : State) (i : GpiId) (p : Part) (h0 : p ≠ .map) (h1 : p ≠ .engines) (h2 : p ≠ .talk) (h3 : p ≠
    .fabric) (h4 : p ≠ .gpio) (h5 : p ≠ .link) :
    (s.debounce i).part p = s.part p := by
  unfold State.debounce
  (try dsimp only)
  (repeat' split) <;> simp [*]

@[simp] theorem State.rawChange_part (s : State) (i : GpiId) (p : Part) (h0 : p ≠ .map) (h1 : p ≠ .engines) (h2 : p ≠ .talk) (h3 : p ≠
    .fabric) (h4 : p ≠ .gpio) (h5 : p ≠ .link) :
    (s.rawChange i).part p = s.part p := by
  unfold State.rawChange
  (try dsimp only)
  (repeat' split) <;> simp [*]

@[simp] theorem State.debounceExpires_part (s : State) (i : GpiId) (p : Part) (h0 : p ≠ .map) (h1 : p ≠ .engines) (h2 : p ≠ .talk) (h3
    : p ≠ .fabric) (h4 : p ≠ .gpio) (h5 : p ≠ .link) :
    (s.debounceExpires i).part p = s.part p := by
  unfold State.debounceExpires
  simp [*]

@[simp] theorem State.rehandInputs_part (s : State) (p : Part) (h0 : p ≠ .talk) (h1 : p ≠ .fabric) (h2 : p ≠ .gpio) (h3 : p ≠ .link) :
    (s.rehandInputs).part p = s.part p := by
  unfold State.rehandInputs
  refine forEach_part p _ (fun s x => ?_) _ _
  (try dsimp only)
  (repeat' split) <;> simp [*]

@[simp] theorem State.setMixerRx_part (s : State) (q : Prod2) (r : Rx) (p : Part) (h0 : p ≠ .mixers) :
    (s.setMixerRx q r).part p = s.part p := by
  unfold State.setMixerRx
  simp [*]

@[simp] theorem State.mixerDiscard_part (s : State) (q : Prod2) (p : Part) (h0 : p ≠ .mixers) :
    (s.mixerDiscard q).part p = s.part p := by
  unfold State.mixerDiscard
  (try dsimp only)
  simp [*]

@[simp] theorem State.portAlive_part (s : State) (q : Prod2) (k : Option StageId) (p : Part) (h0 : p ≠ .mixers) (h1 : p ≠ .link) :
    (s.portAlive q k).part p = s.part p := by
  unfold State.portAlive
  (try dsimp only)
  (repeat' split) <;> simp [*]

@[simp] theorem State.applyStage_part (s : State) (q : Prod2) (k : StageId) (r : RawStage) (p : Part) (h0 : p ≠ .mixers) (h1 : p ≠
    .link) (h2 : p ≠ .engines) :
    (s.applyStage q k r).part p = s.part p := by
  unfold State.applyStage
  (try dsimp only)
  (repeat' split) <;> simp [*]

@[simp] theorem State.applyKeep_part (s : State) (q : Prod2) (p : Part) (h0 : p ≠ .mixers) (h1 : p ≠ .link) (h2 : p ≠ .engines) :
    (s.applyKeep q).part p = s.part p := by
  unfold State.applyKeep
  simp [*]

@[simp] theorem State.mixerFrame_part (s : State) (q : Prod2) (k : Byte) (b : List Byte) (p : Part) (h0 : p ≠ .mixers) (h1 : p ≠
    .link) (h2 : p ≠ .engines) :
    (s.mixerFrame q k b).part p = s.part p := by
  unfold State.mixerFrame
  (repeat' split) <;> simp [*]

@[simp] theorem State.mixerByte_part (s : State) (q : Prod2) (b : RxByte) (p : Part) (h0 : p ≠ .mixers) (h1 : p ≠ .link) (h2 : p ≠
    .engines) :
    (s.mixerByte q b).part p = s.part p := by
  unfold State.mixerByte
  (try dsimp only)
  (repeat' split) <;> simp [*]

@[simp] theorem State.mixerWhole_part (s : State) (q : Prod2) (k t : Byte) (b : List Byte) (p : Part) (h0 : p ≠ .mixers) (h1 : p ≠
    .link) (h2 : p ≠ .engines) :
    (s.mixerWhole q k t b).part p = s.part p := by
  unfold State.mixerWhole
  (repeat' split) <;> simp [*]

@[simp] theorem State.mixerStale_part (s : State) (q : Prod2) (p : Part) (h0 : p ≠ .mixers) (h1 : p ≠ .link) (h2 : p ≠ .engines) :
    (s.mixerStale q).part p = s.part p := by
  unfold State.mixerStale
  (try dsimp only)
  simp [*]

@[simp] theorem State.setWanted_part (s : State) (q : PanelId) (b : Bool) (p : Part) (h0 : p ≠ .loops) :
    (s.setWanted q b).part p = s.part p := by
  unfold State.setWanted
  simp [*]

@[simp] theorem State.clearFlags_part (s : State) (q : PanelId) (p : Part) (h0 : p ≠ .loops) :
    (s.clearFlags q).part p = s.part p := by
  unfold State.clearFlags
  simp [*]

@[simp] theorem State.clearRefused_part (s : State) (q : PanelId) (p : Part) (h0 : p ≠ .lamps) :
    (s.clearRefused q).part p = s.part p := by
  unfold State.clearRefused
  simp [*]

@[simp] theorem State.onEntry_part (s : State) (q : PanelId) (f : RosterEntry → RosterEntry) (p : Part) (h0 : p ≠ .roster) :
    (s.onEntry q f).part p = s.part p := by
  unfold State.onEntry
  simp [*]

@[simp] theorem State.markStale_part (s : State) (q : PanelId) (f : KeyFn → Bool) (p : Part) (h0 : p ≠ .roster) :
    (s.markStale q f).part p = s.part p := by
  unfold State.markStale
  (repeat' split) <;> simp [*]

@[simp] theorem State.enterJoining_part (s : State) (q : PanelId) (i : Option Ident) (p : Part) (h0 : p ≠ .roster) (h1 : p ≠ .lamps) :
    (s.enterJoining q i).part p = s.part p := by
  unfold State.enterJoining
  (repeat' split) <;> simp [*]

@[simp] theorem State.enterActive_part (s : State) (q : PanelId) (p : Part) (h0 : p ≠ .roster) (h1 : p ≠ .xpt) (h2 : p ≠ .link) :
    (s.enterActive q).part p = s.part p := by
  unfold State.enterActive
  simp [*]

@[simp] theorem State.returnActive_part (s : State) (q : PanelId) (p : Part) (h0 : p ≠ .roster) (h1 : p ≠ .xpt) (h2 : p ≠ .link) (h3 :
    p ≠ .loops) :
    (s.returnActive q).part p = s.part p := by
  unfold State.returnActive
  simp [*]

@[simp] theorem State.enterSilent_part (s : State) (q : PanelId) (p : Part) (h0 : p ≠ .roster) (h1 : p ≠ .talk) (h2 : p ≠ .fabric) (h3
    : p ≠ .gpio) (h4 : p ≠ .link) :
    (s.enterSilent q).part p = s.part p := by
  unfold State.enterSilent
  simp [*]

@[simp] theorem State.enterLost_part (s : State) (q : PanelId) (b : Bool) (p : Part) (h0 : p ≠ .roster) (h1 : p ≠ .lamps) (h2 : p ≠
    .xpt) (h3 : p ≠ .link) (h4 : p ≠ .loops) (h5 : p ≠ .talk) (h6 : p ≠ .fabric) (h7 : p ≠ .gpio) :
    (s.enterLost q b).part p = s.part p := by
  unfold State.enterLost
  (try dsimp only)
  (repeat' split) <;> simp [*]

@[simp] theorem State.enterEmpty_part (s : State) (q : PanelId) (p : Part) (h0 : p ≠ .roster) (h1 : p ≠ .loops) :
    (s.enterEmpty q).part p = s.part p := by
  unfold State.enterEmpty
  simp [*]

@[simp] theorem State.raiseRoster_part (s : State) (l : LoopId) (c : RosterCause) (xs : List RosterItem) (p : Part) (h0 : p ≠ .link) :
    (s.raiseRoster l c xs).part p = s.part p := by
  unfold State.raiseRoster
  simp [*]

@[simp] theorem State.setKeyHold_part (s : State) (q : PanelId) (k : KeyId) (h : KeyHold) (p : Part) (h0 : p ≠ .roster) :
    (s.setKeyHold q k h).part p = s.part p := by
  unfold State.setKeyHold
  simp [*]

@[simp] theorem State.dispatchDown_part (s : State) (q : PanelId) (k : KeyId) (p : Part) (h0 : p ≠ .roster) (h1 : p ≠ .lamps) (h2 : p
    ≠ .xpt) (h3 : p ≠ .talk) (h4 : p ≠ .fabric) (h5 : p ≠ .gpio) (h6 : p ≠ .link) :
    (s.dispatchDown q k).part p = s.part p := by
  unfold State.dispatchDown
  (try dsimp only)
  (repeat' split) <;> simp [*]

@[simp] theorem State.dispatchUp_part (s : State) (q : PanelId) (k : KeyId) (p : Part) (h0 : p ≠ .talk) (h1 : p ≠ .fabric) (h2 : p ≠
    .gpio) (h3 : p ≠ .link) :
    (s.dispatchUp q k).part p = s.part p := by
  unfold State.dispatchUp
  (try dsimp only)
  (repeat' split) <;> simp [*]

@[simp] theorem State.admitDown_part (s : State) (q : PanelId) (k : KeyId) (p : Part) (h0 : p ≠ .roster) (h1 : p ≠ .lamps) (h2 : p ≠
    .xpt) (h3 : p ≠ .talk) (h4 : p ≠ .fabric) (h5 : p ≠ .gpio) (h6 : p ≠ .link) :
    (s.admitDown q k).part p = s.part p := by
  unfold State.admitDown
  (repeat' split) <;> simp [*]

@[simp] theorem State.keyDown_part (s : State) (q : PanelId) (k : KeyId) (p : Part) (h0 : p ≠ .roster) (h1 : p ≠ .lamps) (h2 : p ≠
    .xpt) (h3 : p ≠ .talk) (h4 : p ≠ .fabric) (h5 : p ≠ .gpio) (h6 : p ≠ .link) :
    (s.keyDown q k).part p = s.part p := by
  unfold State.keyDown
  (repeat' split) <;> simp [*]

@[simp] theorem State.keyUp_part (s : State) (q : PanelId) (k : KeyId) (p : Part) (h0 : p ≠ .roster) (h1 : p ≠ .lamps) (h2 : p ≠
    .talk) (h3 : p ≠ .fabric) (h4 : p ≠ .gpio) (h5 : p ≠ .link) :
    (s.keyUp q k).part p = s.part p := by
  unfold State.keyUp
  (try dsimp only)
  (repeat' split) <;> simp [*]

@[simp] theorem State.keyEvent_part (s : State) (q : PanelId) (e : KeyEvent) (p : Part) (h0 : p ≠ .roster) (h1 : p ≠ .lamps) (h2 : p ≠
    .xpt) (h3 : p ≠ .talk) (h4 : p ≠ .fabric) (h5 : p ≠ .gpio) (h6 : p ≠ .link) :
    (s.keyEvent q e).part p = s.part p := by
  unfold State.keyEvent
  (repeat' split) <;> simp [*]

@[simp] theorem State.keyImage_part (s : State) (q : PanelId) (d : BitVec 48) (p : Part) (h0 : p ≠ .roster) (h1 : p ≠ .lamps) (h2 : p
    ≠ .xpt) (h3 : p ≠ .talk) (h4 : p ≠ .fabric) (h5 : p ≠ .gpio) (h6 : p ≠ .link) :
    (s.keyImage q d).part p = s.part p := by
  unfold State.keyImage
  (try dsimp only)
  simp [*, forEach_part p]

@[simp] theorem State.replyMoves_part (s : State) (q : PanelId) (b : Bool) (r : LoopReply) (p : Part) (h0 : p ≠ .roster) (h1 : p ≠
    .lamps) (h2 : p ≠ .xpt) (h3 : p ≠ .link) (h4 : p ≠ .loops) :
    (s.replyMoves q b r).part p = s.part p := by
  unfold State.replyMoves
  (repeat' split) <;> simp [*]

@[simp] theorem State.applyContents_part (s : State) (q : PanelId) (r : LoopReply) (p : Part) (h0 : p ≠ .roster) (h1 : p ≠ .lamps) (h2
    : p ≠ .xpt) (h3 : p ≠ .talk) (h4 : p ≠ .fabric) (h5 : p ≠ .gpio) (h6 : p ≠ .link) :
    (s.applyContents q r).part p = s.part p := by
  unfold State.applyContents
  (repeat' split) <;> simp [*, forEach_part p]

@[simp] theorem State.reportReply_part (s : State) (q : PanelId) (m : LoopMessage) (r : LoopReply) (p : Part) (h0 : p ≠ .roster) (h1 :
    p ≠ .lamps) (h2 : p ≠ .xpt) (h3 : p ≠ .link) (h4 : p ≠ .loops) (h5 : p ≠ .talk) (h6 : p ≠ .fabric) (h7 : p ≠ .gpio) :
    (s.reportReply q m r).part p = s.part p := by
  unfold State.reportReply
  (try dsimp only)
  (repeat' split) <;> simp [*]

@[simp] theorem State.applyMiss_part (s : State) (q : PanelId) (f : LoopFault) (p : Part) (h0 : p ≠ .roster) (h1 : p ≠ .lamps) (h2 : p
    ≠ .xpt) (h3 : p ≠ .link) (h4 : p ≠ .loops) (h5 : p ≠ .talk) (h6 : p ≠ .fabric) (h7 : p ≠ .gpio) :
    (s.applyMiss q f).part p = s.part p := by
  unfold State.applyMiss
  (try dsimp only)
  (repeat' split) <;> simp [*]

@[simp] theorem State.reportMiss_part (s : State) (q : PanelId) (f : LoopFault) (p : Part) (h0 : p ≠ .roster) (h1 : p ≠ .lamps) (h2 :
    p ≠ .xpt) (h3 : p ≠ .link) (h4 : p ≠ .loops) (h5 : p ≠ .talk) (h6 : p ≠ .fabric) (h7 : p ≠ .gpio) :
    (s.reportMiss q f).part p = s.part p := by
  unfold State.reportMiss
  (try dsimp only)
  simp [*]

@[simp] theorem State.missAll_part (s : State) (l : LoopId) (f : LoopFault) (c : RosterCause) (p : Part) (h0 : p ≠ .roster) (h1 : p ≠
    .lamps) (h2 : p ≠ .xpt) (h3 : p ≠ .link) (h4 : p ≠ .loops) (h5 : p ≠ .talk) (h6 : p ≠ .fabric) (h7 : p ≠ .gpio) :
    (s.missAll l f c).part p = s.part p := by
  unfold State.missAll
  (try dsimp only)
  simp [*, forEach_part p]

@[simp] theorem State.passage_part (s : State) (q : PanelId) (b : Bool) (p : Part) (h0 : p ≠ .roster) (h1 : p ≠ .lamps) (h2 : p ≠
    .xpt) (h3 : p ≠ .link) (h4 : p ≠ .loops) (h5 : p ≠ .talk) (h6 : p ≠ .fabric) (h7 : p ≠ .gpio) :
    (s.passage q b).part p = s.part p := by
  unfold State.passage
  (repeat' split) <;> simp [*]

@[simp] theorem State.passLoop_part (s : State) (l : LoopId) (c : RosterCause) (b : Bool) (p : Part) (h0 : p ≠ .roster) (h1 : p ≠
    .lamps) (h2 : p ≠ .xpt) (h3 : p ≠ .link) (h4 : p ≠ .loops) (h5 : p ≠ .talk) (h6 : p ≠ .fabric) (h7 : p ≠ .gpio) :
    (s.passLoop l c b).part p = s.part p := by
  unfold State.passLoop
  (try dsimp only)
  simp [*, forEach_part p]

@[simp] theorem State.holdExpires_part (s : State) (q : PanelId) (p : Part) (h0 : p ≠ .roster) (h1 : p ≠ .loops) (h2 : p ≠ .link) :
    (s.holdExpires q).part p = s.part p := by
  unfold State.holdExpires
  (try dsimp only)
  simp [*]

@[simp] theorem State.beginMessage_part (s : State) (l : LoopId) (n : Next) (p : Part) (h0 : p ≠ .loops) :
    (s.beginMessage l n).part p = s.part p := by
  unfold State.beginMessage
  (try dsimp only)
  (repeat' split) <;> simp [*]

@[simp] theorem State.beginIf_part (s : State) (l : LoopId) (f : Next → Bool) (p : Part) (h0 : p ≠ .loops) :
    (s.beginIf l f).part p = s.part p := by
  unfold State.beginIf
  (repeat' split) <;> simp [*]

@[simp] theorem State.exchangeMissed_part (s : State) (l : LoopId) (e : LoopExchange) (f : LoopFault) (p : Part) (h0 : p ≠ .roster)
    (h1 : p ≠ .lamps) (h2 : p ≠ .xpt) (h3 : p ≠ .link) (h4 : p ≠ .loops) (h5 : p ≠ .talk) (h6 : p ≠ .fabric) (h7 : p ≠ .gpio) :
    (s.exchangeMissed l e f).part p = s.part p := by
  unfold State.exchangeMissed
  (try dsimp only)
  (repeat' split) <;> simp [*]

@[simp] theorem State.settleLamps_part (s : State) (q : PanelId) (m : LoopMessage) (r : LoopReply) (p : Part) (h0 : p ≠ .roster) (h1 :
    p ≠ .loops) :
    (s.settleLamps q m r).part p = s.part p := by
  unfold State.settleLamps
  (repeat' split) <;> simp [*]

@[simp] theorem State.exchangeAnswered_part (s : State) (l : LoopId) (e : LoopExchange) (r : LoopReply) (p : Part) (h0 : p ≠ .roster)
    (h1 : p ≠ .lamps) (h2 : p ≠ .xpt) (h3 : p ≠ .link) (h4 : p ≠ .loops) (h5 : p ≠ .talk) (h6 : p ≠ .fabric) (h7 : p ≠ .gpio) :
    (s.exchangeAnswered l e r).part p = s.part p := by
  unfold State.exchangeAnswered
  (try dsimp only)
  (repeat' split) <;> simp [*]

@[simp] theorem State.judgeReply_part (s : State) (l : LoopId) (e : LoopExchange) (cs : List LoopChar) (p : Part) (h0 : p ≠ .roster)
    (h1 : p ≠ .lamps) (h2 : p ≠ .xpt) (h3 : p ≠ .link) (h4 : p ≠ .loops) (h5 : p ≠ .talk) (h6 : p ≠ .fabric) (h7 : p ≠ .gpio) :
    (s.judgeReply l e cs).part p = s.part p := by
  unfold State.judgeReply
  (repeat' split) <;> simp [*]

@[simp] theorem State.takeChar_part (s : State) (l : LoopId) (c : LineChar) (p : Part) (h0 : p ≠ .roster) (h1 : p ≠ .lamps) (h2 : p ≠
    .xpt) (h3 : p ≠ .link) (h4 : p ≠ .loops) (h5 : p ≠ .talk) (h6 : p ≠ .fabric) (h7 : p ≠ .gpio) :
    (s.takeChar l c).part p = s.part p := by
  unfold State.takeChar
  (try dsimp only)
  (repeat' split) <;> simp [*]

@[simp] theorem State.takeReply_part (s : State) (l : LoopId) (d : List Byte) (p : Part) (h0 : p ≠ .roster) (h1 : p ≠ .lamps) (h2 : p
    ≠ .xpt) (h3 : p ≠ .link) (h4 : p ≠ .loops) (h5 : p ≠ .talk) (h6 : p ≠ .fabric) (h7 : p ≠ .gpio) :
    (s.takeReply l d).part p = s.part p := by
  unfold State.takeReply
  (try dsimp only)
  (repeat' split) <;> simp [*]

@[simp] theorem State.enterRunning_part (s : State) (l : LoopId) (p : Part) (h0 : p ≠ .loops) (h1 : p ≠ .link) :
    (s.enterRunning l).part p = s.part p := by
  unfold State.enterRunning
  (try dsimp only)
  simp [*]

@[simp] theorem State.enterLineFault_part (s : State) (l : LoopId) (w : FaultedFrom) (b : Bool) (p : Part) (h0 : p ≠ .roster) (h1 : p
    ≠ .lamps) (h2 : p ≠ .xpt) (h3 : p ≠ .link) (h4 : p ≠ .loops) (h5 : p ≠ .talk) (h6 : p ≠ .fabric) (h7 : p ≠ .gpio) :
    (s.enterLineFault l w b).part p = s.part p := by
  unfold State.enterLineFault
  (try dsimp only)
  simp [*]

@[simp] theorem State.longBreak_part (s : State) (l : LoopId) (p : Part) (h0 : p ≠ .roster) (h1 : p ≠ .lamps) (h2 : p ≠ .xpt) (h3 : p
    ≠ .link) (h4 : p ≠ .loops) (h5 : p ≠ .talk) (h6 : p ≠ .fabric) (h7 : p ≠ .gpio) :
    (s.longBreak l).part p = s.part p := by
  unfold State.longBreak
  (try dsimp only)
  (repeat' split) <;> simp [*]

@[simp] theorem State.waitEnds_part (s : State) (l : LoopId) (b : Bool) (p : Part) (h0 : p ≠ .roster) (h1 : p ≠ .lamps) (h2 : p ≠
    .xpt) (h3 : p ≠ .link) (h4 : p ≠ .loops) (h5 : p ≠ .talk) (h6 : p ≠ .fabric) (h7 : p ≠ .gpio) :
    (s.waitEnds l b).part p = s.part p := by
  unfold State.waitEnds
  (try dsimp only)
  (repeat' split) <;> simp [*]

@[simp] theorem State.searchFails_part (s : State) (l : LoopId) (b : Bool) (w : LoopChange) (p : Part) (h0 : p ≠ .roster) (h1 : p ≠
    .lamps) (h2 : p ≠ .xpt) (h3 : p ≠ .link) (h4 : p ≠ .loops) (h5 : p ≠ .talk) (h6 : p ≠ .fabric) (h7 : p ≠ .gpio) :
    (s.searchFails l b w).part p = s.part p := by
  unfold State.searchFails
  (try dsimp only)
  simp [*]

@[simp] theorem State.measured_part (s : State) (l : LoopId) (c : Nat) (p : Part) (h0 : p ≠ .roster) (h1 : p ≠ .lamps) (h2 : p ≠ .xpt)
    (h3 : p ≠ .link) (h4 : p ≠ .loops) (h5 : p ≠ .talk) (h6 : p ≠ .fabric) (h7 : p ≠ .gpio) :
    (s.measured l c).part p = s.part p := by
  unfold State.measured
  (try dsimp only)
  (repeat' split) <;> simp [*]

@[simp] theorem State.restartLoop_part (s : State) (l : LoopId) (c : RosterCause) (b : Bool) (a : LoopState) (p : Part) (h0 : p ≠
    .roster) (h1 : p ≠ .lamps) (h2 : p ≠ .xpt) (h3 : p ≠ .link) (h4 : p ≠ .loops) (h5 : p ≠ .talk) (h6 : p ≠ .fabric) (h7 : p ≠ .gpio)
    :
    (s.restartLoop l c b a).part p = s.part p := by
  unfold State.restartLoop
  (try dsimp only)
  simp [*]

@[simp] theorem State.restartLoops_part (s : State) (p : Part) (h0 : p ≠ .roster) (h1 : p ≠ .lamps) (h2 : p ≠ .xpt) (h3 : p ≠ .link)
    (h4 : p ≠ .loops) (h5 : p ≠ .talk) (h6 : p ≠ .fabric) (h7 : p ≠ .gpio) :
    (s.restartLoops).part p = s.part p := by
  unfold State.restartLoops
  refine forEach_part p _ (fun s x => ?_) _ _
  (try dsimp only)
  (repeat' split) <;> simp [*]

@[simp] theorem State.changeClass_part (s : State) (t : Nat) (b : BlockId) (c : FeedClass) (p : Part) (h0 : p ≠ .map) (h1 : p ≠ .gpio)
    (h2 : p ≠ .link) (h3 : p ≠ .engines) :
    (s.changeClass t b c).part p = s.part p := by
  unfold State.changeClass
  (try dsimp only)
  (repeat' split) <;> simp [*]

@[simp] theorem State.writeThresholds_part (s : State) (a v : Option Nat) (q : Prod2) (p : Part) (h0 : p ≠ .map) :
    (s.writeThresholds a v q).part p = s.part p := by
  unfold State.writeThresholds
  (try dsimp only)
  (repeat' split) <;> simp [*]

@[simp] theorem State.loopGoes_part (s : State) (l : LoopId) (a b : Bool) (p : Part) (h0 : p ≠ .roster) (h1 : p ≠ .lamps) (h2 : p ≠
    .xpt) (h3 : p ≠ .link) (h4 : p ≠ .loops) (h5 : p ≠ .talk) (h6 : p ≠ .fabric) (h7 : p ≠ .gpio) :
    (s.loopGoes l a b).part p = s.part p := by
  unfold State.loopGoes
  (repeat' split) <;> simp [*]

@[simp] theorem State.changeKey_part (s : State) (q : PanelId) (k : KeyId) (p : Part) (h0 : p ≠ .lamps) (h1 : p ≠ .roster) :
    (s.changeKey q k).part p = s.part p := by
  unfold State.changeKey
  (try dsimp only)
  (repeat' split) <;> simp [*]

@[simp] theorem State.writeKeymap_part (s : State) (q : PanelId) (m : KeyMapEntry) (p : Part) (h0 : p ≠ .keymap) (h1 : p ≠ .roster)
    (h2 : p ≠ .lamps) (h3 : p ≠ .talk) (h4 : p ≠ .fabric) (h5 : p ≠ .gpio) (h6 : p ≠ .link) :
    (s.writeKeymap q m).part p = s.part p := by
  unfold State.writeKeymap
  (try dsimp only)
  (repeat' split) <;> simp [*, forEach_part p]

@[simp] theorem State.linkTalkOn_part (s : State) (n : PortId) (t : Target) (p : Part) (h0 : p ≠ .talk) (h1 : p ≠ .fabric) (h2 : p ≠
    .gpio) (h3 : p ≠ .link) :
    (s.linkTalkOn n t).1.part p = s.part p := by
  unfold State.linkTalkOn
  (try dsimp only)
  (repeat' split) <;> simp [*]

@[simp] theorem State.linkListenOn_part (s : State) (n : PortId) (t : Target) (p : Part) (h0 : p ≠ .talk) (h1 : p ≠ .fabric) (h2 : p ≠
    .gpio) (h3 : p ≠ .link) :
    (s.linkListenOn n t).1.part p = s.part p := by
  unfold State.linkListenOn
  (try dsimp only)
  (repeat' split) <;> simp [*]

@[simp] theorem State.linkTalkOff_part (s : State) (n : PortId) (t : Target) (p : Part) (h0 : p ≠ .talk) (h1 : p ≠ .fabric) (h2 : p ≠
    .gpio) (h3 : p ≠ .link) :
    (s.linkTalkOff n t).1.part p = s.part p := by
  unfold State.linkTalkOff
  (try dsimp only)
  (repeat' split) <;> simp [*]

@[simp] theorem State.linkListenOff_part (s : State) (n : PortId) (t : Target) (p : Part) (h0 : p ≠ .talk) (h1 : p ≠ .fabric) (h2 : p
    ≠ .gpio) (h3 : p ≠ .link) :
    (s.linkListenOff n t).1.part p = s.part p := by
  unfold State.linkListenOff
  (try dsimp only)
  (repeat' split) <;> simp [*]

@[simp] theorem State.changeMapping_part (s : State) (i : GpiId) (m : GpiMap) (p : Part) (h0 : p ≠ .engines) (h1 : p ≠ .talk) (h2 : p
    ≠ .fabric) (h3 : p ≠ .gpio) (h4 : p ≠ .link) :
    (s.changeMapping i m).part p = s.part p := by
  unfold State.changeMapping
  (try dsimp only)
  (repeat' split) <;> simp [*]

@[simp] theorem State.restartBlocks_part (s : State) (p : Part) (h0 : p ≠ .roster) (h1 : p ≠ .lamps) (h2 : p ≠ .xpt) (h3 : p ≠ .link)
    (h4 : p ≠ .loops) (h5 : p ≠ .talk) (h6 : p ≠ .fabric) (h7 : p ≠ .gpio) (h8 : p ≠ .engines) :
    (s.restartBlocks).part p = s.part p := by
  unfold State.restartBlocks
  simp [*]


/-! ## The owners' requests -/

@[simp] theorem serveSetClass_part (s : State) (tag b c : Nat) (p : Part) (h0 : p ≠ .map) (h1 : p ≠ .gpio) (h2 : p ≠ .link) (h3 : p ≠
    .engines) :
    (serveSetClass tag b c s).1.part p = s.part p := by
  unfold serveSetClass
  (try dsimp only)
  (repeat' split) <;> simp [*]

@[simp] theorem serveSetCamera_part (s : State) (x n : Nat) (p : Part) (h0 : p ≠ .map) (h1 : p ≠ .engines) :
    (serveSetCamera x n s).1.part p = s.part p := by
  unfold serveSetCamera
  (try dsimp only)
  (repeat' split) <;> simp [*]

@[simp] theorem serveSetInput_part (s : State) (a b c d : Nat) (p : Part) (h0 : p ≠ .map) (h1 : p ≠ .engines) :
    (serveSetInput a b c d s).1.part p = s.part p := by
  unfold serveSetInput
  (try dsimp only)
  (repeat' split) <;> simp [*]

@[simp] theorem serveSetDest_part (s : State) (d : Nat) (a b c : Option Nat) (p : Part) (h0 : p ≠ .map) (h1 : p ≠ .engines) :
    (serveSetDest d a b c s).1.part p = s.part p := by
  unfold serveSetDest
  (try dsimp only)
  (repeat' split) <;> simp [*]

@[simp] theorem serveSetThreshold_part (s : State) (d : Nat) (a b : Option Nat) (p : Part) (h0 : p ≠ .map) (h1 : p ≠ .engines) :
    (serveSetThreshold d a b s).1.part p = s.part p := by
  unfold serveSetThreshold
  (try dsimp only)
  (repeat' split) <;> simp [*, forEach_part p]

@[simp] theorem serveSetLoop_part (s : State) (d : Nat) (a b c : Option Nat) (p : Part) (h0 : p ≠ .roster) (h1 : p ≠ .lamps) (h2 : p ≠
    .xpt) (h3 : p ≠ .link) (h4 : p ≠ .loops) (h5 : p ≠ .talk) (h6 : p ≠ .fabric) (h7 : p ≠ .gpio) :
    (serveSetLoop d a b c s).1.part p = s.part p := by
  unfold serveSetLoop
  (try dsimp only)
  (repeat' split) <;> simp [*]

@[simp] theorem serveLoopRestart_part (s : State) (d : Nat) (p : Part) (h0 : p ≠ .roster) (h1 : p ≠ .lamps) (h2 : p ≠ .xpt) (h3 : p ≠
    .link) (h4 : p ≠ .loops) (h5 : p ≠ .talk) (h6 : p ≠ .fabric) (h7 : p ≠ .gpio) :
    (serveLoopRestart d s).1.part p = s.part p := by
  unfold serveLoopRestart
  (repeat' split) <;> simp [*]

@[simp] theorem serveSetKeymap_part (s : State) (l a : Nat) (b c : Option Nat) (ks : List RawKey) (p : Part) (h0 : p ≠ .keymap) (h1 :
    p ≠ .roster) (h2 : p ≠ .lamps) (h3 : p ≠ .talk) (h4 : p ≠ .fabric) (h5 : p ≠ .gpio) (h6 : p ≠ .link) :
    (serveSetKeymap l a b c ks s).1.part p = s.part p := by
  unfold serveSetKeymap
  (try dsimp only)
  (repeat' split) <;> simp [*]

@[simp] theorem serveSetSlots_part (s : State) (l a : Nat) (b c d e : Option Nat) (p : Part) (h0 : p ≠ .keymap) :
    (serveSetSlots l a b c d e s).1.part p = s.part p := by
  unfold serveSetSlots
  (try dsimp only)
  (repeat' split) <;> simp [*]

@[simp] theorem serveSetGroup_part (s : State) (g : Nat) (ms : List Nat) (p : Part) (h0 : p ≠ .talk) (h1 : p ≠ .fabric) (h2 : p ≠
    .gpio) (h3 : p ≠ .link) :
    (serveSetGroup g ms s).1.part p = s.part p := by
  unfold serveSetGroup
  (try dsimp only)
  (repeat' split) <;> simp [*]

@[simp] theorem serveSetIfb_part (s : State) (a b c d : Nat) (p : Part) (h0 : p ≠ .talk) (h1 : p ≠ .fabric) (h2 : p ≠ .gpio) (h3 : p ≠
    .link) :
    (serveSetIfb a b c d s).1.part p = s.part p := by
  unfold serveSetIfb
  (try dsimp only)
  (repeat' split) <;> simp [*]

@[simp] theorem serveSetLatch_part (s : State) (w : Nat) (p : Part) (h0 : p ≠ .talk) :
    (serveSetLatch w s).1.part p = s.part p := by
  unfold serveSetLatch
  (try dsimp only)
  simp [*]

@[simp] theorem serveTalk_part (s : State) (a b c : Nat) (t : RawTarget) (p : Part) (h0 : p ≠ .talk) (h1 : p ≠ .fabric) (h2 : p ≠
    .gpio) (h3 : p ≠ .link) :
    (serveTalk a b c t s).1.part p = s.part p := by
  unfold serveTalk
  (repeat' split) <;> simp [*]

@[simp] theorem serveSetGpi_part (s : State) (i : Nat) (m : Option RawGpiMap) (d : Option Nat) (p : Part) (h0 : p ≠ .engines) (h1 : p
    ≠ .talk) (h2 : p ≠ .fabric) (h3 : p ≠ .gpio) (h4 : p ≠ .link) :
    (serveSetGpi i m d s).1.part p = s.part p := by
  unfold serveSetGpi
  (try dsimp only)
  (repeat' split) <;> simp [*]

@[simp] theorem serveSetGpo_part (s : State) (o : Nat) (m : RawGpoMap) (p : Part) (h0 : p ≠ .gpio) :
    (serveSetGpo o m s).1.part p = s.part p := by
  unfold serveSetGpo
  (try dsimp only)
  (repeat' split) <;> simp [*]

@[simp] theorem serveSetFilter_part (s : State) (ks : BitVec 16) (p : Part) (h0 : p ≠ .link) :
    (serveSetFilter ks s).1.part p = s.part p := by
  unfold serveSetFilter
  (try dsimp only)
  (repeat' split) <;> simp [*]

@[simp] theorem serveTake_part (s : State) (d f : Nat) (c : Bool) (p : Part) (h0 : p ≠ .xpt) :
    (serveTake d f c s).1.part p = s.part p := by
  unfold serveTake
  split
  · rename_i d f _ _
    have h := State.offerTake_part s d f .link c p h0
    (repeat' split) <;> simp_all
  · rfl

@[simp] theorem serveLock_part (s : State) (d : Nat) (p : Part) (h0 : p ≠ .xpt) (h1 : p ≠ .link) :
    (serveLock d s).1.part p = s.part p := by
  unfold serveLock
  (repeat' split) <;> simp [*]

@[simp] theorem serveUnlock_part (s : State) (d : Nat) (c : Bool) (p : Part) (h0 : p ≠ .xpt) (h1 : p ≠ .link) :
    (serveUnlock d c s).1.part p = s.part p := by
  unfold serveUnlock
  (repeat' split) <;> simp [*]

@[simp] theorem serveSalvoWrite_part (s : State) (t n : Nat) (es : List RawEntry) (p : Part) (h0 : p ≠ .store) :
    (serveSalvoWrite t n es s).1.part p = s.part p := by
  unfold serveSalvoWrite
  (try dsimp only)
  (repeat' split) <;> simp [*]

@[simp] theorem serveSalvoErase_part (s : State) (t n : Nat) (p : Part) (h0 : p ≠ .store) :
    (serveSalvoErase t n s).1.part p = s.part p := by
  unfold serveSalvoErase
  (repeat' split) <;> simp [*]

@[simp] theorem serveSalvoBoot_part (s : State) (t n : Nat) (p : Part) (h0 : p ≠ .store) :
    (serveSalvoBoot t n s).1.part p = s.part p := by
  unfold serveSalvoBoot
  (repeat' split) <;> simp [*]

@[simp] theorem serveSalvoRecall_part (s : State) (n : Nat) (p : Part) (h0 : p ≠ .xpt) :
    (serveSalvoRecall n s).1.part p = s.part p := by
  unfold serveSalvoRecall
  (try dsimp only)
  (repeat' split) <;> simp [*]


/-! ## The request queue and its service: no request reaches the clock, the mixer ports or the waiting commands -/

theorem serveRequest_part (s : State) (tag : Nat) (r : Request) (p : Part) (h : p = .clock ∨ p = .mixers ∨ p = .pending) :
    (serveRequest tag r s).1.part p = s.part p := by
  rcases h with rfl | rfl | rfl <;> cases r <;> simp [serveRequest]

theorem serveHead_part (s : State) (p : Part) (h : p = .clock ∨ p = .mixers ∨ p = .pending) : s.serveHead.part p = s.part p := by
  unfold State.serveHead
  rcases h with rfl | rfl | rfl <;> (repeat' split) <;> simp [serveRequest_part]

theorem pumpFor_part (n : Nat) (s : State) (p : Part) (h : p = .clock ∨ p = .mixers ∨ p = .pending) :
    (State.pumpFor n s).part p = s.part p := by
  induction n generalizing s with
  | zero => rfl
  | succ n ih => rw [State.pumpFor, ih, serveHead_part s p h]

theorem arrive_part (s : State) (tag : Nat) (r : Request) (p : Part) (h : p = .clock ∨ p = .mixers ∨ p = .pending) :
    (s.arrive tag r).part p = s.part p := by
  unfold State.arrive State.pump
  rw [pumpFor_part _ _ p h]
  rcases h with rfl | rfl | rfl <;> rfl

theorem linkFrame_part (s : State) (kind tag : Byte) (body : List Byte) (p : Part) (h : p = .clock ∨ p = .mixers ∨ p = .pending) :
    (s.linkFrame kind tag body).part p = s.part p := by
  unfold State.linkFrame
  rcases h with rfl | rfl | rfl <;> (repeat' split) <;> simp [arrive_part]

theorem linkByte_part (s : State) (b : RxByte) (p : Part) (h : p = .clock ∨ p = .mixers ∨ p = .pending) :
    (s.linkByte b).part p = s.part p := by
  unfold State.linkByte
  dsimp only
  rcases h with rfl | rfl | rfl <;> (repeat' split) <;> simp [linkFrame_part]

theorem linkWhole_part (s : State) (kind tag : Byte) (body : List Byte) (p : Part) (h : p = .clock ∨ p = .mixers ∨ p = .pending) :
    (s.linkWhole kind tag body).part p = s.part p := by
  unfold State.linkWhole
  rcases h with rfl | rfl | rfl <;> split <;> simp [linkFrame_part]

theorem linkSent_part (s : State) (p : Part) (h : p = .clock ∨ p = .mixers ∨ p = .pending) : s.linkSent.part p = s.part p := by
  unfold State.linkSent State.pump
  split
  · rw [pumpFor_part _ _ p h]
    rcases h with rfl | rfl | rfl <;> rfl
  · rfl

end Sys2Proof.Machine
end

