-- ==== Sys2Proof/Laws/Link.lean ====
section
/-! SUPPORT. The control link: what it does with a notice, a refused frame and a request, said once. -/

namespace Sys2Proof.Machine

/-! ## The transmitter -/

/-- A transmitter that sends chooses nothing. -/
theorem Link.choose_of_sending {l : Link} (h : l.sending.isSome) : l.choose = l := by simp [Link.choose, h]

/-- An idle transmitter begins the first reply (R197). -/
theorem Link.choose_of_reply {l : Link} {r : PendingReply} {rs : List PendingReply} (h : l.sending = none) (hr : l.replies = r :: rs) :
    l.choose = { l with replies := rs, sending := some r.reply.frame } := by simp [Link.choose, h, hr]

/-- While a request is in service, an idle transmitter with no reply stays idle (R197). -/
theorem Link.choose_of_serving {l : Link} (h : l.sending = none) (hr : l.replies = []) (hs : l.serving = true) : l.choose = l := by
  simp [Link.choose, h, hr, hs]

/-- An idle transmitter with nothing to send stays idle. -/
theorem Link.choose_of_nothing {l : Link} (h : l.sending = none) (hr : l.replies = []) (hc : l.continuation = none)
    (hn : l.notices = []) : l.choose = l := by simp [Link.choose, h, hr, hc, hn]

/-! ## Notices -/

@[simp] theorem Link.enqueue_sending (l : Link) (n : Notice) : (l.enqueue n).sending = l.sending := rfl
@[simp] theorem Link.enqueue_replies (l : Link) (n : Notice) : (l.enqueue n).replies = l.replies := rfl
@[simp] theorem Link.enqueue_requests (l : Link) (n : Notice) : (l.enqueue n).requests = l.requests := rfl
@[simp] theorem Link.enqueue_serving (l : Link) (n : Notice) : (l.enqueue n).serving = l.serving := rfl
@[simp] theorem Link.enqueue_filter (l : Link) (n : Notice) : (l.enqueue n).filter = l.filter := rfl

@[simp] theorem Link.offer_sending (l : Link) (n : Notice) : (l.offer n).sending = l.sending := by unfold Link.offer; split <;> rfl
@[simp] theorem Link.offer_replies (l : Link) (n : Notice) : (l.offer n).replies = l.replies := by unfold Link.offer; split <;> rfl
@[simp] theorem Link.offer_requests (l : Link) (n : Notice) : (l.offer n).requests = l.requests := by unfold Link.offer; split <;> rfl
@[simp] theorem Link.offer_serving (l : Link) (n : Notice) : (l.offer n).serving = l.serving := by unfold Link.offer; split <;> rfl

@[simp] theorem Link.held_sending (l : Link) (n : Notice) : (l.held n).sending = l.sending := by unfold Link.held; split <;> simp
@[simp] theorem Link.held_replies (l : Link) (n : Notice) : (l.held n).replies = l.replies := by unfold Link.held; split <;> simp
@[simp] theorem Link.held_requests (l : Link) (n : Notice) : (l.held n).requests = l.requests := by unfold Link.held; split <;> simp
@[simp] theorem Link.held_serving (l : Link) (n : Notice) : (l.held n).serving = l.serving := by unfold Link.held; split <;> simp

/-- While the transmitter cannot begin it, a notice only joins the queue or is dropped. -/
theorem Link.notify_eq_held {l : Link} (h : l.sending.isSome ∨ (l.replies = [] ∧ l.serving = true)) (n : Notice) :
    l.notify n = l.held n := by
  unfold Link.notify Link.held
  split
  · rcases h with h | ⟨h1, h2⟩
    · exact Link.choose_of_sending (by simpa using h)
    · cases hs : l.sending with
      | some f => exact Link.choose_of_sending (by simp [hs])
      | none => exact Link.choose_of_serving (by simpa using hs) (by simpa using h1) (by simpa using h2)
  · rfl

/-- A notice raised during a service joins the queue or is dropped; nothing else of the link changes hands. -/
theorem Link.held_of_service (l : Link) (qs : List Queued) (b : Bool) (n : Notice) :
    ({ l with requests := qs, serving := b } : Link).held n = { l.held n with requests := qs, serving := b } := by
  unfold Link.held Link.offer Link.enqueue
  dsimp only
  (repeat' split) <;> rfl

/-! ## Requests (R190, R191) -/

/-- The head of the queue is served where the reply slot is empty (R191). -/
theorem State.serveHead_of {s : State} {q : Queued} {behind : List Queued} (h : s.link.requests = q :: behind)
    (hs : s.link.slotHeld = false) (hr : q.request ≠ .restart) :
    s.serveHead =
      (serveRequest q.tag q.request (s.onLink fun l => { l with serving := true })).1.onLink
        (·.answered q (serveRequest q.tag q.request (s.onLink fun l => { l with serving := true })).2) := by
  unfold State.serveHead
  rw [h]
  dsimp only
  rw [hs]
  split
  · contradiction
  · split
    · contradiction
    · rfl

/-- What comes of a request, RESTART apart, that finds the link quiet: its owner serves it, and its reply is begun. -/
theorem arrive_quiet {s : State} (h : s.link.quiet) {r : Request} (hr : r ≠ .restart) (tag : Nat) :
    s.arrive tag r =
      (serveRequest tag r { s with link := s.link.inService tag r }).1.onLink
        (·.answered ⟨tag, r⟩ (serveRequest tag r { s with link := s.link.inService tag r }).2) := by
  obtain ⟨h1, h2, h3, h4⟩ := h
  have hq : (s.onLink (·.offerRequest tag r)) = { s with link := { s.link with requests := [⟨tag, r⟩] } } := by
    simp [State.onLink, Link.offerRequest, h1, Config.requestRoom]
  unfold State.arrive
  rw [hq]
  exact State.serveHead_of (s := { s with link := { s.link with requests := [⟨tag, r⟩] } }) (q := ⟨tag, r⟩) (behind := []) rfl
    (by simp [Link.slotHeld, h2]) hr

@[simp] theorem foldl_held_sending (ns : List Notice) (l : Link) : (ns.foldl Link.held l).sending = l.sending := by
  induction ns generalizing l with
  | nil => rfl
  | cons n ns ih => simp [ih]
@[simp] theorem foldl_held_replies (ns : List Notice) (l : Link) : (ns.foldl Link.held l).replies = l.replies := by
  induction ns generalizing l with
  | nil => rfl
  | cons n ns ih => simp [ih]
@[simp] theorem foldl_held_requests (ns : List Notice) (l : Link) : (ns.foldl Link.held l).requests = l.requests := by
  induction ns generalizing l with
  | nil => rfl
  | cons n ns ih => simp [ih]
@[simp] theorem foldl_held_serving (ns : List Notice) (l : Link) : (ns.foldl Link.held l).serving = l.serving := by
  induction ns generalizing l with
  | nil => rfl
  | cons n ns ih => simp [ih]

/-- Notices raised during a service leave the request in service. -/
theorem foldl_held_inService (ns : List Notice) (l : Link) (tag : Nat) (r : Request) :
    ns.foldl Link.held (l.inService tag r) = (ns.foldl Link.held l).inService tag r := by
  induction ns generalizing l with
  | nil => rfl
  | cons n ns ih => rw [List.foldl_cons, List.foldl_cons, ← ih, Link.inService, Link.held_of_service]; rfl

/-- The reply of a request that found the link quiet is begun at once. -/
theorem Link.answered_quiet {l : Link} (h : l.quiet) (ns : List Notice) (tag : Nat) (r : Request) (a : Answer) :
    (ns.foldl Link.held (l.inService tag r)).answered ⟨tag, r⟩ a = l.served ns tag r a.result a.data := by
  obtain ⟨h1, h2, h3, h4⟩ := h
  rw [foldl_held_inService]
  have k1 : (ns.foldl Link.held l).sending = none := by rw [foldl_held_sending, h3]
  have k2 : (ns.foldl Link.held l).replies = [] := by rw [foldl_held_replies, h2]
  have k3 : (ns.foldl Link.held l).requests = [] := by rw [foldl_held_requests, h1]
  have k4 : (ns.foldl Link.held l).serving = false := by rw [foldl_held_serving, h4]
  unfold Link.answered Link.served Link.inService
  generalize ns.foldl Link.held l = m at k1 k2 k3 k4
  obtain ⟨rx, requests, serving, replies, sending⟩ := m
  simp only at k1 k2 k3 k4
  subst k1 k2 k3 k4
  rfl

/-- A request whose owner raises no notice, on a link that was quiet. -/
theorem Link.answered_inService {l : Link} (h : l.quiet) (tag : Nat) (r : Request) (a : Answer) :
    (l.inService tag r).answered ⟨tag, r⟩ a = l.served [] tag r a.result a.data := Link.answered_quiet h [] tag r a

/-- The step of a request that found the link quiet, from what its owner does: the owner leaves the state `t` but for the link, where it
raised the notices `ns`, and answers `a`. -/
theorem ended_arrive_quiet {s t : State} (h : s.link.quiet) {r : Request} (hr : r ≠ .restart) (tag : Nat) (ns : List Notice) (a : Answer)
    (hs : serveRequest tag r { s with link := s.link.inService tag r } =
      ({ t with link := ns.foldl Link.held (s.link.inService tag r) }, a)) :
    ended (s.arrive tag r) = .next (State.settle { t with link := s.link.served ns tag r a.result a.data }) := by
  rw [arrive_quiet h hr, hs]
  simp only [ended, State.onLink, Link.answered_quiet h]

/-- A notice raised during a service. -/
theorem raise_inService {s : State} {l : Link} (h : l.quiet) {ns : List Notice} {tag : Nat} {r : Request}
    (hl : s.link = ns.foldl Link.held (l.inService tag r)) (n : Notice) :
    s.raise n = { s with link := (ns ++ [n]).foldl Link.held (l.inService tag r) } := by
  have : s.link.notify n = s.link.held n := by
    refine Link.notify_eq_held (Or.inr ?_) n
    rw [hl, foldl_held_replies, foldl_held_serving]
    exact ⟨h.2.1, rfl⟩
  rw [State.raise, State.onLink, this, hl, List.foldl_append]
  rfl

end Sys2Proof.Machine
end

