-- ==== Sys2Proof/Laws/Trigger.lean ====
section
/-! SUPPORT. Triggers of the computation engines, and tables, said once. -/

namespace Sys2Proof.Machine

/-! ## Tables -/

@[simp] theorem Tbl.get_replicate' {n : Nat} {α : Type} (a : α) (i : Fin n) : (Tbl.replicate n a).get i = a := by
  simp [Tbl.replicate, Tbl.get]
@[simp] theorem Tbl.get_map' {n : Nat} {α β : Type} (t : Tbl n α) (f : α → β) (i : Fin n) : (t.map f).get i = f (t.get i) := by
  simp [Tbl.map, Tbl.get]
@[simp] theorem Tbl.get_build' {n : Nat} {α : Type} (f : Fin n → α) (i : Fin n) : (Tbl.build n f).get i = f i := by
  simp [Tbl.build, Tbl.get]
theorem Tbl.get_set' {n : Nat} {α : Type} (t : Tbl n α) (i j : Fin n) (a : α) : (t.set i a).get j = if i = j then a else t.get j := by
  simp [Tbl.set, Tbl.get, List.getElem_set, Fin.ext_iff]
@[simp] theorem Tbl.get_set_self' {n : Nat} {α : Type} (t : Tbl n α) (i : Fin n) (a : α) : (t.set i a).get i = a := by
  simp [Tbl.get_set']
/-- Tables with the same cells are the same. -/
theorem Tbl.ext_get {n : Nat} {α : Type} {t u : Tbl n α} (h : ∀ i, t.get i = u.get i) : t = u := by
  obtain ⟨xs, hx⟩ := t
  obtain ⟨ys, hy⟩ := u
  have : xs = ys := by
    apply List.ext_getElem (by rw [hx, hy])
    intro i h1 h2
    have := h ⟨i, by omega⟩
    simpa [Tbl.get] using this
  subst this
  rfl

@[simp] theorem Pair.get_set_self (x : Pair α) (p : Prod2) (v : α) : (x.set p v).get p = v := by cases p <;> rfl
theorem Pair.get_set (x : Pair α) (p q : Prod2) (v : α) : (x.set p v).get q = if p = q then v else x.get q := by
  cases p <;> cases q <;> simp [Pair.set, Pair.get]

/-! ## Triggers (R69, R70, R72) -/

/-- A trigger changes its engine alone, as R69 says. -/
theorem State.trigger_eq (s : State) (p : Prod2) :
    s.trigger p = { s with engines := s.engines.set p ((s.engines.get p).triggered s p) } := by
  have hp : s.engines.set p (s.engines.get p) = s.engines := by cases p <;> rfl
  unfold State.trigger Engine.triggered State.startRun State.setEngine
  dsimp only
  split
  · rw [hp]
  · split <;> rfl

/-- Triggers change the engines alone; both computations start on the same state, since a computation reads no engine. -/
theorem State.triggers_eq (s : State) (f : Prod2 → Bool) : s.triggers f = { s with engines := enginesTriggered s.engines s f } := by
  unfold State.triggers State.triggerIf enginesTriggered
  cases f .a <;> cases f .b <;> simp only [State.trigger_eq, Bool.false_eq_true, if_true, if_false] <;> rfl

end Sys2Proof.Machine
end

