-- ==== Sys2Proof/Laws/Settle.lean ====
section
/-! SUPPORT. What ends every step: the fabric transmitter that has chosen has nothing to choose, the lamps that are composed show their
composition, and settling twice is settling once. -/

namespace Sys2Proof.Machine

/-- A transmitter that sends chooses nothing. -/
theorem Fabric.choose_of_sending {f : Fabric} (h : f.sending.isSome) : f.choose = f := by simp [Fabric.choose, h]

/-- The transmitter that has chosen has nothing further to choose (R42). -/
@[simp] theorem Fabric.choose_choose (f : Fabric) : f.choose.choose = f.choose := by
  by_cases h : f.choose.sending.isSome
  · exact Fabric.choose_of_sending h
  · have : f.choose = f := by
      unfold Fabric.choose at h ⊢
      split at h
      · simp_all
      · split at h
        · simp [Fabric.begin] at h
        · split at h
          · simp [Fabric.begin] at h
          · split at h
            · simp [Fabric.begin] at h
            · split at h
              · simp [Fabric.begin] at h
              · simp_all
    rw [this, this]

/-- A lamp's value does not depend on the lamp images (R127). -/
@[simp] theorem State.compose_lamp (s : State) (p : PanelId) (l : LampId) : s.compose.lamp p l = s.lamp p l := rfl

/-- A lamp's value does not depend on the fabric line (R127). -/
@[simp] theorem State.settle_lamp (s : State) (p : PanelId) (l : LampId) : s.settle.lamp p l = s.lamp p l := rfl

/-- The image of a settled state holds every lamp's value (R127). -/
@[simp] theorem State.settle_image (s : State) (p : PanelId) (l : LampId) : (s.settle.lampImage p).get l = s.lamp p l := by
  simp [State.settle, State.compose, State.lampImage, Tbl.getP, State.onLamps, State.onFabric]
  rfl

/-- Every lamp of a settled state holds the value its composition gives (R127). -/
theorem State.settle_composed (s : State) : s.settle.composed := fun p l => by simp

/-- Settling twice is settling once. -/
@[simp] theorem State.settle_settle (s : State) : s.settle.settle = s.settle := by
  have h : s.settle.fabric.choose = s.settle.fabric := Fabric.choose_choose s.fabric
  show ((s.settle.onFabric Fabric.choose).compose) = s.settle
  have h1 : s.settle.onFabric Fabric.choose = s.settle := by
    show { s.settle with fabric := s.settle.fabric.choose } = s.settle
    rw [h]
  rw [h1]
  rfl

end Sys2Proof.Machine
end

