-- ==== Sys2Proof/Tests/Slice0.lean ====
section
/-! SUPPORT. The model's own tests: the well-formedness checks refuse ill-formed commands, words written out from chapter 12 decode, each
command does one thing that the spec gives in numbers or in words, and every hypothesis of a statement is met somewhere. Where a test
follows a worked case of the spec, its comment names the section. -/

namespace Sys2Proof.Tests

open Sys2Proof.Machine

set_option Elab.async false

/-- The state a command leaves. -/
def after (i : Instr) (s : State) : State :=
  match exec i s with
  | .next t => t
  | _ => s

/-! ## Well-formedness refuses what no wire carries -/

theorem test_wf_accepts : (Instr.setClass 255 15 7).wf = true := by decide
theorem test_wf_tag : (Instr.setClass 256 0 0).wf = false := by decide
theorem test_wf_setClass : (Instr.setClass 0 256 0).wf = false := by decide
theorem test_wf_setCamera : (Instr.setCamera 0 0 256).wf = false := by decide
theorem test_wf_setInput : (Instr.setInput 0 0 0 0 256).wf = false := by decide
theorem test_wf_setDest : (Instr.setDest 0 0 (some 256) none none).wf = false := by decide
theorem test_wf_setThreshold : (Instr.setThreshold 0 0 (some 65536) none).wf = false := by decide
theorem test_wf_setLoop : (Instr.setLoop 0 0 none none (some 256)).wf = false := by decide
theorem test_wf_setKeymap : (Instr.setKeymap 0 0 1 none none [⟨256, 0, 0, 0, false, false⟩]).wf = false := by decide
theorem test_wf_setSlots : (Instr.setSlots 0 0 1 (some 256) none none none).wf = false := by decide
theorem test_wf_setGroup : (Instr.setGroup 0 0 [256]).wf = false := by decide
theorem test_wf_setIfb : (Instr.setIfb 0 0 0 0 256).wf = false := by decide
theorem test_wf_setLatch : (Instr.setLatch 0 65536).wf = false := by decide
theorem test_wf_setGpi : (Instr.setGpi 0 0 (some (.other 3)) none).wf = false := by decide
theorem test_wf_setGpo : (Instr.setGpo 0 0 (.other 4)).wf = false := by decide
theorem test_wf_take : (Instr.take 0 256 0 false).wf = false := by decide
theorem test_wf_lock : (Instr.lock 0 256).wf = false := by decide
theorem test_wf_unlock : (Instr.unlock 0 256 false).wf = false := by decide
theorem test_wf_talk : (Instr.talk 0 0 0 0 ⟨256, 0⟩).wf = false := by decide
theorem test_wf_salvoWrite : (Instr.salvoWrite 0 0 [⟨256, 0⟩]).wf = false := by decide
theorem test_wf_salvoErase : (Instr.salvoErase 0 256).wf = false := by decide
theorem test_wf_salvoRecall : (Instr.salvoRecall 0 256).wf = false := by decide
theorem test_wf_salvoBoot : (Instr.salvoBoot 0 256).wf = false := by decide
theorem test_wf_loopRestart : (Instr.loopRestart 0 256).wf = false := by decide
theorem test_wf_restart : (Instr.restart 256).wf = false := by decide
theorem test_wf_readTally : (Instr.readTally 0 0 0 256).wf = false := by decide
theorem test_wf_readDest : (Instr.readDest 0 256).wf = false := by decide
theorem test_wf_readRoster : (Instr.readRoster 0 0 0 1).wf = false := by decide
theorem test_wf_readTalks : (Instr.readTalks 0 3 1 0).wf = false := by decide
theorem test_wf_readListener : (Instr.readListener 0 256).wf = false := by decide
theorem test_wf_readSalvo : (Instr.readSalvo 0 1 1).wf = false := by decide
theorem test_wf_readStatus : (Instr.readStatus 0 256).wf = false := by decide
theorem test_wf_clFrameReceived : (Instr.clFrameReceived 1#8 0#8 (List.replicate 249 0#8)).wf = false := by decide +kernel
theorem test_wf_stage : (Instr.mixerStageRecord .a 0#8 ⟨4, ⟨0, 0⟩, ⟨0, 0⟩, 0, ⟨0, 0⟩, 0, ⟨0, 0⟩, 0⟩).wf = false := by decide
theorem test_wf_stage_word : (Instr.mixerStageRecord .a 0#8 ⟨3, ⟨0, 0⟩, ⟨0, 0⟩, 65536, ⟨0, 0⟩, 0, ⟨0, 0⟩, 0⟩).wf = false := by decide
theorem test_wf_xecho : (Instr.xecho 256 0 0).wf = false := by decide
theorem test_wf_aack : (Instr.aack 256).wf = false := by decide
theorem test_wf_present : (Instr.present 0 256).wf = false := by decide
theorem test_wf_ident : (Instr.ident 0 0 49 0 0).wf = false := by decide
theorem test_wf_keys : (Instr.keys 0 false [⟨48, true⟩]).wf = false := by decide
theorem test_wf_rateMark : (Instr.rateMarkMeasured 0 0).wf = false := by decide

/-! ## Words written out from chapter 12 -/

/-- 12.3: block 3, class code 0. -/
theorem test_decode_setClass : decodeRequest 0x01 [0x03#8, 0x00#8] = some (.setClass 3 0) := by decide
/-- 12.3: destination 5, presence bits 1 and 2, record flag set, arm clear. -/
theorem test_decode_setDest :
    decodeRequest 0x04 [0x05#8, 0x06#8, 0x01#8, 0x00#8] = some (.setDest 5 none (some 1) (some 0)) := by decide
/-- 12.3: loop 1, address 16, presence bit 1, no port, one assignment: key 7, TALK to GROUP 4, NOLATCH and PRIORITY. -/
theorem test_decode_setKeymap :
    decodeRequest 0x07 [0x01#8, 0x10#8, 0x02#8, 0xFF#8, 0x01#8, 0x07#8, 0x01#8, 0x01#8, 0x04#8, 0x03#8] =
      some (.setKeymap 1 16 none (some 255) [⟨7, 1, 1, 4, true, true⟩]) := by decide
/-- 12.3: a latch window of 300 ms, most significant byte first. -/
theorem test_decode_setLatch : decodeRequest 0x0B [0x01#8, 0x2C#8] = some (.setLatch 300) := by decide
/-- 12.3: destination 40, PARKED, forced. -/
theorem test_decode_take : decodeRequest 0x0F [0x28#8, 0xFF#8, 0x01#8] = some (.take 40 255 true) := by decide
/-- 12.3: path TALK, action ON, port 17, target IFB 2. -/
theorem test_decode_talk : decodeRequest 0x12 [0x00#8, 0x01#8, 0x11#8, 0x03#8, 0x02#8] = some (.talk 0 1 17 ⟨3, 2⟩) := by decide
/-- 12.3: page 47, two entries, the second one's source PARKED. -/
theorem test_decode_salvoWrite :
    decodeRequest 0x13 [0x2F#8, 0x02#8, 0x00#8, 0x05#8, 0x3F#8, 0xFF#8] = some (.salvoWrite 47 [⟨0, 5⟩, ⟨63, 255⟩]) := by decide
/-- R202: a body cut short is no request. -/
theorem test_decode_short : decodeRequest 0x13 [0x2F#8, 0x02#8, 0x00#8, 0x05#8, 0x3F#8] = none := by decide
/-- 12.7: XECHO of destination 40, PARKED, sequence bit 1: 0x12 + 0x28 + 0xFF + 0x01 + 0xC6 is 0x200. -/
theorem test_decode_xecho : decodeCardRecord [0x12#8, 0x28#8, 0xFF#8, 0x01#8, 0xC6#8] = some (.xecho 40 255 1) := by decide
/-- 12.7: PRESENT of card 4, AUDIO; the check with one bit wrong is stray. -/
theorem test_decode_present : decodeCardRecord [0x31#8, 0x04#8, 0x01#8, 0xCA#8] = some (.present 4 1) := by decide
theorem test_decode_present_check : decodeCardRecord [0x31#8, 0x04#8, 0x01#8, 0xCB#8] = none := by decide
/-- 12.6: a KEYS reply with MORE and one event, key 5 DOWN. -/
theorem test_decode_keys : readReply [0x12#8, 0x81#8, 0x85#8, 0xE8#8] = some (.keys true [⟨5, true⟩]) := by decide
/-- 12.6: a STATE reply in which keys 0 and 47 are down. -/
theorem test_decode_state :
    readReply [0x13#8, 0x01#8, 0#8, 0#8, 0#8, 0#8, 0x80#8, 0x6C#8] = some (.state 0x800000000001#48) := by decide
/-- 12.6: a QUIET reply. -/
theorem test_decode_quiet : readReply [0x15#8, 0xEB#8] = some .quiet := by decide
/-- 12.7: XSET of destination 40, source 7, sequence bit 1 goes to card 2. -/
theorem test_bytes_xset :
    (FabRec.video (.xset 40 (some 7) true)).bytes = [0x10#8, 0x02#8, 0x28#8, 0x07#8, 0x01#8, 0xBE#8] := by decide
/-- R90: the address character of address 5, and a data character 0x55: stop, mark, data and start bit. -/
theorem test_bits_sentChar : sentChar true 5#8 = 0x60A#11 ∧ sentChar false 0x55#8 = 0x4AA#11 := by decide
/-- R164, R203: a contact that is active by its raw level and inactive by its debounced one. -/
theorem test_bytes_gpiLevels :
    ({ State.reset with gpio := .reset 0 (.replicate 16 true) } : State).gpiData 15 = [0x0F#8, 0#8, 0#8, 0x14#8, 0#8, 1#8] := by
  decide +kernel
/-- 12.1, 12.4: the reply DONE to SET_LATCH with tag 9 and a window of 300. -/
theorem test_bytes_reply :
    (Reply.frame ⟨9, .done, 0x0B, [0x01#8, 0x2C#8]⟩).bytes =
      [0xE7#8, 0x06#8, 0x40#8, 0x09#8, 0x00#8, 0x0B#8, 0x01#8, 0x2C#8, 0x79#8] := by decide

/-! ## Numbers that the spec works out -/

/-- R74's table, row by row. -/
theorem test_weights :
    let w := fun (t g1 g2 : Nat) => ((⟨.black, .black, t, .black, g1, .black, g2⟩ : StageRec).branches.map fun b => b.2.2)
    w 384 256 0 = [480, 288, 256] ∧ w 512 512 0 = [256, 256, 512] ∧ w 300 100 50 = [621, 256, 95, 50]
      ∧ w 1024 1024 512 = [0, 0, 512, 512] ∧ w 0 0 0 = [1024, 0] := by decide
/-- Section 6.9: codes and working bit times of a search that measures 140, then 99. -/
theorem test_rate :
    nearestNominal 140 = 96 ∧ searchCode 96 140 = none ∧ nearestNominal 99 = 96 ∧ searchCode 96 99 = some 10
      ∧ workingBitTime 96 10 = 99 ∧ workingBitTime 192 16 = 192 := by decide
/-- R92: the majority of each bit's samples, and the flag of samples that disagree: 0x55 with a mark bit of 0. -/
theorem test_readChar :
    readChar ⟨0x4AA#11, 0x4AA#11, 0x4AA#11⟩ = some ⟨0x55#8, false, false, false⟩
      ∧ readChar ⟨0x4AA#11, 0x4AA#11, 0x4AB#11⟩ = some ⟨0x55#8, false, true, false⟩ := by decide

/-- The stage records of section 5.9, with P's transition position `t`. -/
def keyedStages (t : Nat) : Tbl 4 StageRec :=
  ((Tbl.replicate 4 StageRec.reset).set 0 ⟨.input 3, .stage 1, t, .input 9, 256, .black, 0⟩).set 1
    ⟨.input 4, .input 5, 512, .input 3, 512, .black, 0⟩

/-- The device of section 5.9: adopted, with its mixer, map and classes. -/
def keyed (t : Nat) : State :=
  let s := State.reset
  { s with
    map :=
      { s.map with
        classes := ((s.map.classes.set 0 .camera).set 1 .camera).set 5 .graphics
        inputs := ⟨(((s.map.inputs.a.set 3 (.routed 3)).set 4 (.routed 4)).set 5 (.routed 5)).set 9 (.direct 40), s.map.inputs.b⟩ }
    xpt :=
      { s.xpt with
        adopted := true
        dests := ((s.xpt.dests.set 3 { Dest.reset with expected := some 5 }).set 4 { Dest.reset with expected := some 6 }).set 5
          { Dest.reset with expected := some 7 } }
    mixers := ⟨{ MixerPort.reset with table := keyedStages t, state := .live 12000000 }, MixerPort.reset⟩
    engines := ⟨{ Engine.reset with pendingAdoption := false }, { Engine.reset with pendingAdoption := false }⟩ }

/-- Section 5.9: air and preview shares of sources 5, 6, 7 and 40. -/
theorem test_shares :
    let x := (keyed 384).snapshot .a
    let air := x.walkFromP
    let preview := x.preview.walkFromP
    ([5, 6, 7, 40].map (shareOf air)) = [624, 72, 72, 256] ∧ ([5, 6, 7, 40].map (shareOf preview)) = [384, 192, 192, 256] := by decide +kernel
/-- Section 5.12: the cut of a re-entry loop is E2's A branch toward E1. -/
theorem test_cut :
    let loop : Tbl 4 StageRec :=
      (((keyedStages 0).set 0 ⟨.stage 1, .input 12, 0, .black, 0, .black, 0⟩).set 1
        ⟨.stage 2, .input 10, 0, .black, 0, .black, 0⟩).set 2 ⟨.stage 1, .input 11, 0, .black, 0, .black, 0⟩
    (cutsOf { (keyed 0).snapshot .b with stages := loop }.walkFromP).head? = some ⟨2, .a, 1⟩ := by decide +kernel

/-! ## One step of each command -/

/-- The device with block 0 CAMERA and destinations 3 and 4 of card 0 known, its control link's transmitter idle. -/
def base : State := keyed 384

/-- R6: with destination 3 ROUTED in production A, a RETURN source may not be taken to it. -/
def returning : State := { base with map := { base.map with classes := base.map.classes.set 9 .returned } }

/-- A loop that is RUNNING at 125,000 bit/s, with nothing enrolled. -/
def running : State := { base with loops := base.loops.set 0 { Loop.reset with state := .running } }

/-- Panel (0, 1), a KEY panel with 32 keys and 2 slots. -/
def panel : PanelId := ⟨0, 0⟩

/-- The running loop with panel (0, 1) in a state, its exchange waiting for the reply to a message. -/
def waiting (st : RosterState) (missed : Nat) (m : LoopMessage) : State :=
  { running with
    loops := running.loops.set 0 { Loop.reset with state := .running, exchange := some ⟨0, m, .window 72000⟩ }
    roster := running.roster.setP panel
      { RosterEntry.reset with state := st, missed := missed, ident := some ⟨.key, 32, 2, 4⟩
                               lostAt := if st = .lost then some 0 else none } }

/-- What the reply being sent answers: its result code. -/
def answered (s : State) : Option Byte := s.link.sending.bind fun f => f.body[0]?

theorem test_hardReset : (after .hardReset { base with clock := 7 }).xpt.watcher.state = .freeRun (7 + 960000) := by decide +kernel
theorem test_setClass :
    (after (.setClass 1 0 3) base).map.classes.get 0 = .line ∧ (after (.setClass 1 0 6) base).map.classes.get 0 = .camera := by
  decide +kernel
theorem test_setCamera :
    (after (.setCamera 1 5 95) base).map.cameraPort.get 5 = some 95 ∧ answered (after (.setCamera 1 40 9) base) = some 5#8 := by
  decide +kernel
theorem test_setInput :
    ((after (.setInput 1 1 39 1 63) base).map.inputs.get .b).get 39 = .routed 63
      ∧ answered (after (.setInput 1 2 39 1 63) base) = some 4#8 := by decide +kernel
theorem test_setDest : (after (.setDest 1 63 (some 0) (some 1) none) base).map.attrs.get 63 = ⟨.a, true, false⟩ := by decide +kernel
theorem test_setThreshold :
    let t := after (.setThreshold 1 2 (some 0) (some 2000)) base
    t.map.thresholds.get .a = ⟨1, 1024⟩ ∧ t.map.thresholds.get .b = ⟨1, 1024⟩ := by decide +kernel
theorem test_setLoop :
    let x := (after (.setLoop 1 2 (some 1) (some 4) none) base).loop 2
    x.state = .starting false none ∧ x.rate = .auto ∧ x.nominal = 192 ∧ x.working = 192 := by decide +kernel
theorem test_setKeymap :
    ((after (.setKeymap 1 0 1 none (some 17) [⟨7, 1, 1, 4, true, false⟩]) base).keyMap panel).keys.get 7
      = ⟨.talk (.group 4), true, false⟩ := by decide +kernel
theorem test_setSlots : ((after (.setSlots 1 0 1 none (some 127) none none) base).keyMap panel).slots.get 1 = some 127 := by decide +kernel
theorem test_setGroup :
    (after (.setGroup 1 15 [95, 0]) base).talk.groups.get 15 = [95, 0] ∧ answered (after (.setGroup 1 15 [3, 3]) base) = some 4#8 := by
  decide +kernel
theorem test_setIfb :
    let t := after (.setIfb 1 0 10 11 99) base
    (t.talk.circuits.get 0).dim = 30 ∧ (t.talk.listeners.get 10).talkers = [⟨11, [.program 0], false, 0⟩] := by decide +kernel
theorem test_setLatch : (after (.setLatch 1 349) base).talk.latchWindow = 300 := by decide +kernel
theorem test_setGpi : (after (.setGpi 1 15 (some (.arm 63)) (some 300)) base).gpi 15 = ⟨false, false, 255, some 480000, .arm 63⟩ := by
  decide +kernel
theorem test_setGpo : ((after (.setGpo 1 0 .freeRun) base).gpio.outputs.get 0).active = true := by decide +kernel
theorem test_setFilter :
    (after (.setFilter 1 0x0002#16) base).link.filter = 0x0002#16 ∧ answered (after (.setFilter 1 0x2000#16) base) = some 4#8 := by
  decide +kernel
theorem test_take :
    (after (.take 1 3 255 false) base).xpt.takes = [⟨3, none, .link, false⟩]
      ∧ answered (after (.take 1 3 72 true) returning) = some 5#8 := by decide +kernel
theorem test_lock : ((after (.lock 1 63) base).dest 63).lock = some ⟨.link, none⟩ := by decide +kernel
theorem test_unlock :
    let s := { base with xpt := { base.xpt with dests := base.xpt.dests.set 3 { Dest.reset with lock := some ⟨.panel panel, some 9⟩ } } }
    ((after (.unlock 1 3 true) s).dest 3).lock = none ∧ answered (after (.unlock 1 3 false) s) = some 3#8 := by decide +kernel
theorem test_talk :
    let t := after (.talk 1 0 1 10 ⟨0, 11⟩) base
    (t.talk.listeners.get 11).talkers = [⟨10, [.talk 0], false, 0⟩] ∧ t.talk.call 11 = true ∧ t.talk.talking 10 = true := by decide +kernel
theorem test_salvoWrite :
    let s := { base with store := { base.store with state := .idle } }
    (after (.salvoWrite 9 47 [⟨0, 5⟩, ⟨1, 6⟩, ⟨0, 255⟩]) s).store.state = .operating (.write 47 [⟨0, none⟩, ⟨1, some 6⟩]) false 9 := by
  decide +kernel
theorem test_salvoErase : answered (after (.salvoErase 1 0) base) = some 2#8 := by decide +kernel
theorem test_salvoRecall :
    let s := { base with store := { base.store with state := .idle, pages := base.store.pages.set 47 ⟨.valid, [⟨63, some 5⟩], false⟩ } }
    (after (.salvoRecall 1 47) s).xpt.takes = [⟨63, some 5, .salvo 47 .link, false⟩] := by decide +kernel
theorem test_salvoBoot :
    (after (.salvoBoot 9 47) { base with store := { base.store with state := .idle } }).store.state = .operating (.boot (some 47)) false 9 := by
  decide +kernel
theorem test_loopRestart :
    (after (.loopRestart 1 0) running).loop 0 = { Loop.reset with state := .starting false none }
      ∧ answered (after (.loopRestart 1 3) running) = some 8#8 := by decide +kernel
theorem test_restart :
    let s := after (.take 1 3 255 false) base
    let t := after (.restart 2) { s with link := Link.reset }
    t.xpt.takes = [] ∧ t.dest 3 = s.dest 3 ∧ t.link.sending = some ⟨0x40, 2, [0#8, 0x18#8, 0#8, 0#8]⟩ := by decide +kernel
theorem test_readTally : answered (after (.readTally 1 2 96 32) base) = some 0#8 ∧ answered (after (.readTally 1 2 97 32) base) = some 4#8 := by
  decide +kernel
theorem test_readDest : answered (after (.readDest 1 63) base) = some 0#8 ∧ answered (after (.readDest 1 64) base) = some 4#8 := by
  decide +kernel
theorem test_readRoster : answered (after (.readRoster 1 3 1 16) base) = some 0#8 ∧ answered (after (.readRoster 1 3 1 17) base) = some 4#8 := by
  decide +kernel
theorem test_readTalks : answered (after (.readTalks 1 0 112 16) base) = some 0#8 ∧ answered (after (.readTalks 1 2 5 0) base) = some 7#8 := by
  decide +kernel
theorem test_readListener : answered (after (.readListener 1 95) base) = some 0#8 ∧ answered (after (.readListener 1 96) base) = some 4#8 := by
  decide +kernel
theorem test_readSalvo : answered (after (.readSalvo 1 0 0) base) = some 2#8 ∧ answered (after (.readSalvo 1 1 0) base) = some 0#8 := by
  decide +kernel
theorem test_readStatus : answered (after (.readStatus 1 5) base) = some 0#8 ∧ answered (after (.readStatus 1 6) base) = some 4#8 := by
  decide +kernel
theorem test_clFrameReceived :
    (after (.clFrameReceived 0x0F#8 0x21#8 [0x28#8, 0xFF#8, 0x00#8]) base).xpt.takes = [⟨40, none, .link, false⟩] := by decide +kernel
theorem test_clFrameDiscarded :
    let s := { base with link := { base.link with rx := .collecting [2#8, 1#8, 1#8] 50000 } }
    let t := after (.clFrameDiscarded ⟨0#8, true⟩) s
    t.link.counts.check = 1 ∧ t.link.sending = some ⟨0x40, 0, [9#8, 0#8, 3#8]⟩ := by decide +kernel
theorem test_clGapTimeout :
    let t := after .clGapTimeout { base with link := { base.link with rx := .collecting [2#8] 50000 } }
    t.link.counts.gap = 1 ∧ t.link.rx = .hunting ∧ t.clock = 50000 := by decide +kernel
theorem test_clTransmitComplete :
    let s := { base with link := { base.link with sending := some ⟨0, 0, []⟩, notices := [⟨5, .frameLocked⟩], gapFlag := true, dropped := 2
                                                  noticeCount := 255 } }
    let t := after .clTransmitComplete s
    t.link.sending.map (·.tag) = some 5 ∧ t.link.notices = [⟨255, .gap 2 0#16⟩] ∧ t.link.noticeCount = 0 := by decide +kernel
theorem test_clByteReceived :
    (after (.clByteReceived ⟨0xE7#8, true⟩) base).link.rx = .collecting [] 48000
      ∧ (after (.clByteReceived ⟨0xE7#8, false⟩) base).link.counts.skipped = 1 := by decide +kernel
/-- Section 4.8, at 120 ms: t, a self reference and an input beyond 39 are adjusted, and an unused key fill is kept. -/
theorem test_mixerStage :
    let t := after (.mixerStageRecord .b 0#8 ⟨2, ⟨0, 7⟩, ⟨1, 2⟩, 1300, ⟨0, 44⟩, 200, ⟨1, 1⟩, 0⟩) base
    (t.mixers.get .b).table.get 2 = ⟨.input 7, .black, 1024, .black, 200, .stage 1, 0⟩ ∧ (t.mixers.get .b).adjusts = 1
      ∧ (t.mixers.get .b).state = .live 12000000 := by decide +kernel
theorem test_mixerStage_discarded :
    let t := after (.mixerStageRecord .b 0#8 ⟨5, ⟨0, 7⟩, ⟨1, 2⟩, 0, ⟨0, 4⟩, 0, ⟨1, 1⟩, 0⟩) base
    (t.mixers.get .b).discards = 1 ∧ (t.mixers.get .b).state = .stale none := by decide +kernel
theorem test_mixerKeep :
    let t := after (.mixerKeepRecord .a 0#8) { base with clock := 24000 }
    (t.mixers.get .a).state = .live 12024000 ∧ t.engines = base.engines := by decide +kernel
theorem test_mixerFrameDiscarded :
    let s := { base with mixers := base.mixers.set .b { MixerPort.reset with rx := .collecting [2#8, 0x61#8] 50000 } }
    ((after (.mixerFrameDiscarded .b ⟨0#8, false⟩) s).mixers.get .b).discards = 1 := by decide +kernel
theorem test_mixerGapTimeout :
    let s := { base with mixers := base.mixers.set .b { MixerPort.reset with rx := .collecting [2#8, 0x61#8] 50000 } }
    ((after (.mixerGapTimeout .b) s).mixers.get .b).rx = .hunting := by decide +kernel
theorem test_mixerStaleTimeout :
    let t := after (.mixerStaleTimeout .a) base
    (t.mixers.get .a).state = .stale (some 12000000) ∧ t.engines.a.running.isSome = true := by decide +kernel
theorem test_mixerByteReceived :
    ((after (.mixerByteReceived .b ⟨0xE7#8, true⟩) base).mixers.get .b).rx = .collecting [] 48000 := by decide +kernel
/-- Section 5.9: source 6 is published RED at 72 and 192, with everything in its preview taking second place. -/
theorem test_computationComplete :
    let s := { base with engines := base.engines.set .a { base.engines.a with running := some (base.snapshot .a), again := true } }
    let t := after (.computationComplete .a) s
    t.engines.a.published.get 6 = ⟨.red, 72, 192, false, false⟩ ∧ t.engines.a.count = 1 ∧ t.engines.a.running.isSome = true
      ∧ t.engines.a.again = false := by decide +kernel
theorem test_framePulse :
    let s := { base with xpt := { base.xpt with takes := [⟨4, some 8, .panel ⟨1, 2⟩, false⟩] } }
    (after .framePulse s).dest 4 = ⟨some 8, .inFlight, 0, true, none, some (.panel ⟨1, 2⟩)⟩ := by decide +kernel
theorem test_frameLossTimeout :
    let s := { base with xpt := { base.xpt with watcher := ⟨.locked 2400000, some 800000, 0, some 0⟩ } }
    (after .frameLossTimeout s).xpt.watcher.state = .freeRun 3200000 := by decide +kernel
theorem test_freeRunPeriodExpiry : (after .freeRunPeriodExpiry base).xpt.watcher.state = .freeRun 1920000 := by decide +kernel

/-- The fabric line with an exchange outstanding, its transmitter idle and every card PRESENT. -/
def outstanding (r : FabRec) (timeouts : Fin 2) : State :=
  { base with
    fabric :=
      { base.fabric with
        sending := none
        probesDue := .replicate 7 false
        cards := .replicate 7 { Card.reset with presence := .present, timeouts := timeouts }
        exchanges := base.fabric.exchanges.set r.card (some ⟨r, false, 48000⟩) } }

theorem test_fabricRecordSent : (after .fabricRecordSent base).fabric.exchanges.get 0 = some ⟨.probe 0, false, 48000⟩ := by decide +kernel
/-- R28, R29: a card that carries another source puts an IN_FLIGHT destination into RETRY. -/
theorem test_xecho :
    let s := outstanding (.video (.xset 4 (some 8) true)) 1
    let s := { s with xpt := { s.xpt with dests := s.xpt.dests.set 4 ⟨some 8, .inFlight, 0, true, none, none⟩ } }
    ((after (.xecho 4 8 1) s).dest 4).state = .verified ∧ ((after (.xecho 4 9 1) s).dest 4).state = .retry false := by decide +kernel
theorem test_aack :
    let t := after (.aack 95) (outstanding (.aset ⟨95, []⟩) 1)
    t.fabric.exchanges.get 6 = none ∧ (t.card 6).timeouts = 0 := by decide +kernel
theorem test_present : ((after (.present 0 0) (after .fabricRecordSent base)).card 0).presence = .present := by decide +kernel
/-- R205: a record whose check fails is stray, and its bytes leave the receiver waiting for the next gap. -/
theorem test_fabricStrayRecord :
    let s := { base with fabric := { base.fabric with rx := .collecting [] } }
    after (.fabricStrayRecord ⟨true, [0x21#8, 0x5F#8, 0x81#8]⟩) s = base := by decide +kernel
/-- R205: an AACK that comes in two runs without a gap between them closes its exchange, and a byte behind it is skipped. -/
theorem test_fabricStrayRecord_inRuns :
    let s := after (.fabricStrayRecord ⟨true, [0x21#8]⟩) (outstanding (.aset ⟨95, []⟩) 1)
    let t := after (.fabricStrayRecord ⟨false, [0x5F#8, 0x80#8]⟩) s
    s.fabric.rx = .collecting [0x21#8] ∧ t.fabric.exchanges.get 6 = none ∧ t.fabric.rx = .awaitingGap
      ∧ after (.fabricStrayRecord ⟨false, [0x21#8]⟩) t = t := by decide +kernel
theorem test_fabricReplyTimeout :
    ((after (.fabricReplyTimeout 6) (outstanding (.aset ⟨95, []⟩) 0)).fabric.sending = some ⟨.aset ⟨95, []⟩, false⟩)
      ∧ ((after (.fabricReplyTimeout 6) (outstanding (.aset ⟨95, []⟩) 1)).card 6).presence = .absent := by decide +kernel
/-- A card in a presence state, its probe outstanding. -/
def probing (c : CardId) (p : Presence) : State :=
  let s := outstanding (.probe c) 0
  { s with fabric := { s.fabric with cards := s.fabric.cards.set c { Card.reset with presence := p } } }

/-- R50, R54: an audio card that returns is PRESENT with its CARD notice, and the ASETs of its 32 ports are queued, the first being sent. -/
theorem test_present_returns :
    let t := after (.present 6 1) (probing 6 .absent)
    t.fabric.sending = some ⟨.aset ⟨64, []⟩, false⟩ ∧ t.fabric.audio.length = 31 ∧ t.link.sending.map (·.kind) = some 0x45 := by decide +kernel
/-- R47: card 3 is about to be ABSENT, with an XSET of its destination 62 in the send queue; the control link's transmitter is busy. -/
def losing : State :=
  let s := outstanding (.video (.xset 63 none true)) 1
  { s with
    fabric := { s.fabric with video := [.xset 62 none true, .xset 0 none true], sending := some ⟨.aset ⟨95, []⟩, false⟩ }
    xpt := { s.xpt with dests := (s.xpt.dests.set 62 ⟨none, .retry true, 1, true, none, some .link⟩).set 63
                                   ⟨none, .inFlight, 0, true, none, some .link⟩ }
    link := { s.link with sending := some ⟨0x40, 0, []⟩ } }
theorem test_fabricReplyTimeout_absent :
    let t := after (.fabricReplyTimeout 3) losing
    (t.dest 63).state = .retry false ∧ (t.dest 62).state = .faulted ∧ t.fabric.video = [.xset 0 none true]
      ∧ t.link.notices.map (·.notice) = [.destFault 62 none .timeout (some .link), .card 3 (.absentTimeout (.xset 63))] := by decide +kernel
theorem test_probeTimerExpiry :
    let s := { base with fabric := { base.fabric with cards := base.fabric.cards.set 6 { Card.reset with presence := .absent, probe := some 5 } } }
    (after (.probeTimerExpiry 6) s).fabric.probesDue.get 6 = true := by decide +kernel

/-- Section 6.9: the first POLL carries slots 48 and 49 and keys 0 to 9. -/
theorem test_poll :
    let s := waiting .joining 0 .stateQuery
    let s := { s with loops := running.loops }
    ((after (.poll 0) s).loop 0).exchange =
      some ⟨0, .poll ([48, 49, 0, 1, 2, 3, 4, 5, 6, 7, 8, 9].map fun l => (l, .dark)), .sending⟩ := by decide +kernel
/-- Section 6.9: after an empty round the first ENROL goes to address 1. -/
theorem test_enrol :
    ((after (.enrol 0) running).loop 0).exchange = some ⟨0, .enrol true, .sending⟩ ∧ ((after (.enrol 0) running).loop 0).enrolPosition = 1 := by
  decide +kernel
theorem test_stateQuery :
    let s := waiting .active 0 .stateQuery
    let s := { s with loops := running.loops.set 0 { Loop.reset with state := .running, wanted := (Tbl.replicate 16 false).set 0 true } }
    ((after (.stateQuery 0) s).loop 0).exchange = some ⟨0, .stateQuery, .sending⟩ := by decide +kernel
theorem test_loopMessageSent :
    ((after (.loopMessageSent 0) (after (.enrol 0) running)).loop 0).exchange = some ⟨0, .enrol true, .window 72000⟩ := by decide +kernel
theorem test_loopReplyStartBit :
    ((after (.loopReplyStartBit 0) (waiting .active 0 (.poll []))).loop 0).exchange = some ⟨0, .poll [], .reply none⟩ := by decide +kernel
/-- R116: the third missed poll in a row makes an ACTIVE entry SILENT. -/
theorem test_loopReplyWindowTimeout :
    ((after (.loopReplyWindowTimeout 0) (waiting .active 1 (.poll []))).entry panel).state = .active
      ∧ ((after (.loopReplyWindowTimeout 0) (waiting .active 2 (.poll []))).entry panel).state = .silent := by decide +kernel
/-- R35, R118: the tenth miss takes a SILENT entry's selection and sets the deadline of its locks, 30 s on. -/
theorem test_loopReplyWindowTimeout_lost :
    let s := waiting .silent 9 (.poll [])
    let s := { s with
      roster := s.roster.setP panel { s.entry panel with selected := some 63 }
      xpt := { s.xpt with dests := s.xpt.dests.set 63 { Dest.reset with lock := some ⟨.panel panel, none⟩ } } }
    let t := after (.loopReplyWindowTimeout 0) s
    (t.entry panel).state = .lost ∧ (t.entry panel).selected = none ∧ (t.dest 63).lock = some ⟨.panel panel, some 720072000⟩ := by
  decide +kernel
theorem test_loopReplyGapTimeout :
    let s := waiting .silent 9 (.poll [])
    let s := { s with loops := s.loops.set 0 { s.loop 0 with exchange := some ⟨0, .poll [], .reply (some 9)⟩ } }
    let t := after (.loopReplyGapTimeout 0) s
    (t.entry panel).state = .lost ∧ (t.loop 0).counts.timeout = 1 ∧ (t.entry panel).lostAt = some 9 := by decide +kernel
/-- R95: a character whose mark bit is set inside a reply is a CHECK fault at its completion; outside an exchange it is stray. -/
theorem test_loopReplyDiscarded :
    let s := waiting .active 0 (.poll [])
    let x : Loop :=
      { s.loop 0 with
        buffer := [⟨1#8, true, false, false⟩, ⟨0x15#8, false, false, false⟩], exchange := some ⟨0, .poll [], .reply none⟩ }
    let s := { s with loops := s.loops.set 0 x }
    let c : LineChar := ⟨0x7D6#11, 0x7D6#11, 0x7D6#11⟩
    ((after (.loopReplyDiscarded 0 c) s).loop 0).counts.check = 1 ∧ ((after (.loopStrayCharacter 0 c) running).loop 0).counts.stray = 1 := by
  decide +kernel
theorem test_loopReplyCharacter :
    let t := after (.loopReplyCharacter 0 ⟨0x602#11, 0x602#11, 0x602#11⟩) (waiting .active 0 (.poll []))
    (t.loop 0).buffer = [⟨1#8, true, false, false⟩] ∧ (t.loop 0).exchange = some ⟨0, .poll [], .reply (some 4224)⟩ := by decide +kernel
theorem test_ident :
    let s := { waiting .empty 0 (.enrol true) with roster := State.reset.roster }
    ((after (.ident 0 0 32 2 4) s).entry panel).ident = some ⟨.key, 32, 2, 4⟩ := by decide +kernel
/-- R114, R119: an IDENT to an ENROL brings a LOST entry back to JOINING with what it says. -/
theorem test_ident_lost :
    let t := after (.ident 0 3 48 4 9) (waiting .lost 10 (.enrol false))
    (t.entry panel).state = .joining ∧ (t.entry panel).ident = some ⟨.combined, 48, 4, 9⟩ ∧ (t.entry panel).lostAt = none := by
  decide +kernel
/-- R121: a press of a DEST key selects its destination. -/
theorem test_keys :
    let s := waiting .active 0 (.poll [])
    let s := { s with keymap := s.keymap.setP panel { s.keyMap panel with keys := (s.keyMap panel).keys.set 5 ⟨.dest 63, false, false⟩ } }
    ((after (.keys 0 false [⟨5, true⟩]) s).entry panel).selected = some 63 := by decide +kernel
/-- R115, R119: KEYS to an ENROL of a LOST entry: it is JOINING, keeps its kind, and under the new state its TALK key's press is deferred. -/
theorem test_keys_lost :
    let s := waiting .lost 10 (.enrol false)
    let s := { s with keymap := s.keymap.setP panel { s.keyMap panel with keys := (s.keyMap panel).keys.set 5 ⟨.talk (.port 9), false, false⟩ } }
    let t := after (.keys 0 false [⟨5, true⟩]) s
    (t.entry panel).state = .joining ∧ (t.entry panel).ident = some ⟨.key, 32, 2, 4⟩ ∧ (t.entry panel).keys.get 5 = .deferred
      ∧ t.talk.key panel 5 = .idle := by decide +kernel
theorem test_stateReply :
    let t := after (.stateReply 0 0x20#48) (waiting .joining 0 .stateQuery)
    (t.entry panel).state = .active ∧ (t.entry panel).keys.get 5 = .down := by decide +kernel
/-- R115: the STATE that makes the entry ACTIVE dispatches a deferred TALK key that is still down; without a panel port it is REFUSED. -/
theorem test_stateReply_deferred :
    let s := waiting .joining 0 .stateQuery
    let s := { s with
      keymap := s.keymap.setP panel { s.keyMap panel with keys := (s.keyMap panel).keys.set 5 ⟨.talk (.port 9), false, false⟩ }
      roster := s.roster.setP panel { s.entry panel with keys := (s.entry panel).keys.set 5 .deferred } }
    let t := after (.stateReply 0 0x20#48) s
    t.talk.key panel 5 = .refused ∧ (t.lamps.refused.getP panel).get 5 = true := by decide +kernel
/-- R117: a HOLD from a SILENT entry makes it ACTIVE with its state wanted. -/
theorem test_hold_silent :
    let t := after (.hold 0) (waiting .silent 3 (.poll []))
    (t.entry panel).state = .active ∧ (t.loop 0).wanted.get 0 = true ∧ (t.loop 0).holdOff.get 0 = true := by decide +kernel
theorem test_hold : ((after (.hold 0) (waiting .active 0 (.poll []))).loop 0).holdOff.get 0 = true := by decide +kernel
theorem test_quiet : ((after (.quiet 0) (waiting .active 2 (.poll [(48, .dark)]))).entry panel).sent.get 48 = some .dark := by decide +kernel
/-- R119: a QUIET to an ENROL of a LOST entry makes it JOINING. -/
theorem test_quiet_lost : ((after (.quiet 0) (waiting .lost 10 (.enrol false))).entry panel).state = .joining := by decide +kernel
theorem test_longBreak : ((after (.longBreak 0) running).loop 0).state = .lineFault 24000000 := by decide +kernel
/-- R106, R110, R113: a line fault is told, and is a FRAMING miss of the loop's entries. -/
theorem test_longBreak_misses :
    let s := waiting .active 2 (.poll [])
    let t := after (.longBreak 0) { s with link := { s.link with sending := some ⟨0x40, 0, []⟩ } }
    (t.entry panel).lastFault = some .framing
      ∧ t.link.notices.map (·.notice) = [.loop 0 (.lineFault .running), .roster 0 .line [⟨0, .active, .silent, 3, some .framing, none⟩]] := by
  decide +kernel
theorem test_lineFaultRestartExpiry :
    let s := { running with loops := running.loops.set 0 { Loop.reset with state := .lineFault 24000000 } }
    ((after (.lineFaultRestartExpiry 0) s).loop 0).state = .starting true none := by decide +kernel
theorem test_loopBreakSent :
    let s := { running with loops := running.loops.set 0 { Loop.reset with state := .starting false none } }
    ((after (.loopBreakSent 0) s).loop 0).state = .starting false (some 2400000) := by decide +kernel
theorem test_startingWaitExpiry :
    let s := { running with loops := running.loops.set 0 { Loop.reset with state := .starting false (some 5) } }
    ((after (.startingWaitExpiry 0 true) s).loop 0).state = .running
      ∧ ((after (.startingWaitExpiry 0 false) s).loop 0).state = .lineFault 24000005 := by decide +kernel

/-- Loop 0 under AUTO in a step of a rate search. -/
def searching (x : SearchStep) : State :=
  { running with loops := running.loops.set 0 { Loop.reset with state := .rateSearch false x, rate := .auto } }

/-- Section 6.9: c = 99 gives nominal 96 and code 10; c = 140 fails. -/
theorem test_rateMarkMeasured :
    let good := (after (.rateMarkMeasured 0 99) (searching (.listening 9))).loop 0
    let bad := (after (.rateMarkMeasured 0 140) (searching (.listening 9))).loop 0
    good.nominal = 96 ∧ good.trim = 10 ∧ good.working = 99 ∧ bad.state = .rateSearch true (.pausing 24000000) ∧ bad.trim = 16 := by
  decide +kernel
theorem test_rateSearchTimeout :
    ((after (.rateSearchTimeout 0) (searching (.listening 9))).loop 0).counts.searchFailures = 1 := by decide +kernel
theorem test_searchRetryExpiry :
    ((after (.searchRetryExpiry 0) (searching (.pausing 9))).loop 0).state = .rateSearch false .breaking := by decide +kernel
theorem test_searchIdleGuardMet : ((after (.searchIdleGuardMet 0) (searching .guard)).loop 0).state = .running := by decide +kernel
theorem test_rosterHoldExpiry :
    let t := after (.rosterHoldExpiry panel) (waiting .lost 10 (.enrol false))
    (t.entry panel).state = .empty ∧ t.clock = 720000000 := by decide +kernel
theorem test_lockDeadlineExpiry :
    let lock (n : Nat) : Dest := { Dest.reset with lock := some ⟨.panel panel, some n⟩ }
    let s := { base with xpt := { base.xpt with dests := (base.xpt.dests.set 3 (lock 9)).set 4 (lock 8) } }
    let t := after (.lockDeadlineExpiry panel) s
    (t.dest 4).lock = none ∧ (t.dest 3).lock = some ⟨.panel panel, some 9⟩ ∧ t.clock = 8 := by decide +kernel
theorem test_latchTimerExpiry :
    let s := { base with talk := { base.talk with keys := base.talk.keys.setP panel ((base.talk.keys.getP panel).set 47 (.held 9)) } }
    (after (.latchTimerExpiry panel 47) s).talk.key panel 47 = .momentary := by decide +kernel
theorem test_gpiRawChange : (after (.gpiRawChange 15) base).gpi 15 = ⟨true, false, 20, some 480000, .unmapped⟩ := by decide +kernel
theorem test_gpiDebounceExpiry :
    let t := after (.gpiDebounceExpiry 15) (after (.gpiRawChange 15) base)
    t.gpi 15 = ⟨true, true, 20, none, .unmapped⟩ ∧ t.clock = 480000 := by decide +kernel
/-- R177: a write whose read-back disagrees is programmed a second time, and BAD if that disagrees too. -/
theorem test_programmingComplete :
    let s := { base with store := { base.store with state := .operating (.write 47 [⟨0, none⟩]) false 9 } }
    let t := after (.programmingComplete false) s
    t.store.state = .operating (.write 47 [⟨0, none⟩]) true 9
      ∧ (after (.programmingComplete true) t).store.pages.get 47 = ⟨.valid, [⟨0, none⟩], false⟩ := by decide +kernel
theorem test_startScanComplete :
    let s := { base with store := { base.store with pages := base.store.pages.set 47 ⟨.valid, [⟨0, none⟩], true⟩ } }
    (after .startScanComplete s).store.pages.get 47 = ⟨.bad, [], false⟩ := by decide +kernel
/-- With an empty queue one reference clock passes (log entry 1). -/
theorem test_idle : step base = .next { base with clock := 1 } := by rfl

/-! ## Every hypothesis of a statement is met

One theorem for each statement that has hypotheses: a state and operands, taken at the ends of their ranges, that meet all of them, and where
a statement has clauses, one for each. -/

/-- The control link of the test states is quiet. -/
theorem quiet_base : base.link.quiet := ⟨rfl, rfl, rfl, rfl⟩

theorem test_meets_StepRunsFrontCommand :
    { base with pending := [.framePulse] }.pending = Instr.framePulse :: [] ∧ base.pending = [] := ⟨rfl, rfl⟩
theorem test_meets_QueueAndClockFrame :
    exec .framePulse base = .next (after .framePulse base) ∧ isExpiry .framePulse = false ∧ isExpiry .clGapTimeout = true := ⟨rfl, rfl, rfl⟩
theorem test_meets_RequestBodiesDecode :
    (Request.setKeymap 255 255 (some 255) none [⟨255, 255, 255, 255, true, true⟩]).wf = true ∧ Request.restart.wf = true := by decide
theorem test_meets_ShortBodiesAreRefused :
    (Request.setThreshold 255 (some 65535) none).wf = true ∧ 3 < (Request.setThreshold 255 (some 65535) none).body.length := by decide
theorem test_meets_RecordsAndRepliesDecode :
    panelKindOf 3 = some .combined ∧ panelKindOf 0 = some .key ∧ (∀ e ∈ List.replicate 8 (⟨47, true⟩ : KeyEvent), e.key < 48) := by decide
theorem test_meets_RequestRowIsItsFrame :
    (Instr.take 255 255 255 true).request = some (255, .take 255 255 true) ∧ (Instr.take 255 255 255 true).wf = true
      ∧ base.link.rx = .hunting := by decide
theorem test_meets_BytesMakeTheFrame :
    base.settle.settle = base.settle ∧ base.settle.link.rx = .hunting ∧ (base.settle.mixers.get .a).rx = .hunting
      ∧ (⟨3, ⟨255, 255⟩, ⟨0, 39⟩, 65535, ⟨3, 0⟩, 0, ⟨1, 3⟩, 1024⟩ : RawStage).wf = true :=
  ⟨State.settle_settle base, rfl, rfl, by decide⟩

theorem test_meets_SourceMapStaysWellFormed :
    let s := { base with map := { base.map with cameraPort := base.map.cameraPort.set 0 (some 95) }, pending := [.framePulse] }
    s.map.wf ∧ step s = .next (after .framePulse { s with pending := [] }) :=
  ⟨⟨by decide +kernel, fun p => by cases p <;> exact ⟨by decide, by decide, by decide, by decide⟩⟩, rfl⟩

/-- The stage records of section 5.9 lie in their ranges. -/
theorem keyed_inRange : stagesInRange (keyedStages 384) := fun k => by
  have : k = 0 ∨ k = 1 ∨ k = 2 ∨ k = 3 := by revert k; decide
  obtain rfl | rfl | rfl | rfl := this
  · exact ⟨by decide, by decide, by decide, trivial, ⟨by decide, by decide⟩, trivial, trivial⟩
  all_goals exact ⟨by decide, by decide, by decide, trivial, trivial, trivial, trivial⟩
/-- The stage records after a hard reset lie in their ranges. -/
theorem black_inRange : stagesInRange (.replicate 4 StageRec.reset) := fun k => by
  rw [Tbl.get_replicate']
  exact ⟨by decide, by decide, by decide, trivial, trivial, trivial, trivial⟩
theorem test_meets_StageTablesStayInRange : base.stagesWf ∧ step base = .next { base with clock := 1 } :=
  ⟨fun p => match p with
    | .a => ⟨keyed_inRange, fun _ h => nomatch h⟩
    | .b => ⟨black_inRange, fun _ h => nomatch h⟩, rfl⟩
theorem test_meets_TakeListStaysWellFormed :
    let s := { base with xpt := { base.xpt with takes := [⟨63, none, .link, true⟩, ⟨0, some 127, .panel panel, false⟩] } }
    s.xpt.listWf ∧ step s = .next { s with clock := 1 } :=
  ⟨⟨by decide, by decide⟩, rfl⟩
theorem test_meets_SendQueueHoldsOnePerTarget :
    let s := { base with fabric := { base.fabric with video := [.xset 63 none true, .xquery 0], audio := [⟨95, []⟩, ⟨0, []⟩] } }
    s.fabric.queueWf ∧ step s = .next { s with clock := 1 } :=
  ⟨⟨by decide, by decide⟩, rfl⟩
theorem test_meets_SalvoPagesStayWellFormed :
    let s := { base with store := { base.store with pages := base.store.pages.set 47 ⟨.valid, [⟨63, none⟩, ⟨0, some 127⟩], true⟩ } }
    s.store.wf ∧ step s = .next { s with clock := 1 } := by
  refine ⟨⟨fun n => ?_, trivial, by decide⟩, rfl⟩
  have h : ∀ n : SalvoId, ((base.store.pages.set 47 ⟨.valid, [⟨63, none⟩, ⟨0, some 127⟩], true⟩).get n).entries.length ≤ 32
      ∧ (((base.store.pages.set 47 ⟨.valid, [⟨63, none⟩, ⟨0, some 127⟩], true⟩).get n).entries.map fun e => e.dest).Nodup
      ∧ (((base.store.pages.set 47 ⟨.valid, [⟨63, none⟩, ⟨0, some 127⟩], true⟩).get n).state ≠ .valid →
          ((base.store.pages.set 47 ⟨.valid, [⟨63, none⟩, ⟨0, some 127⟩], true⟩).get n).entries = []) := by decide +kernel
  exact h n
theorem test_meets_LinkQueuesStayBounded :
    let s := { base with link := { base.link with notices := [⟨255, .frameLocked⟩], sending := some ⟨0x40, 9, []⟩ } }
    s.link.wf ∧ step s = .next { s with clock := 1 } :=
  ⟨⟨by decide, by decide, by decide, by decide, rfl, fun h => absurd rfl h, fun h => by cases h⟩, rfl⟩
theorem test_meets_LoopsStayInRange :
    (∀ l, (running.loop l).wf) ∧ step running = .next { running with clock := 1 } := by
  refine ⟨fun l => ?_, rfl⟩
  have h : ∀ l : LoopId, (running.loop l).trim ≤ 31 ∧ (running.loop l).nominal ∈ [384, 192, 96, 48]
      ∧ (running.loop l).buffer.length ≤ 64 ∧ 1 ≤ (running.loop l).enrolPosition ∧ (running.loop l).enrolPosition ≤ 16 := by decide +kernel
  exact h l
/-- Panel (0, 1) with a key of each function, at port 95, in a roster state, its selected destination given. -/
def keyedPanel (st : RosterState) (selected : Option DestId) : State :=
  let s := waiting st 0 (.poll [])
  let fns : List KeyFn := [.talk (.port 11), .listen (.group 15), .dest 63, .source (some 5), .lock, .salvo 47, .talk (.ifb 0), .talk (.follow .a)]
  { s with
    keymap := s.keymap.setP panel
      { production := .both, port := some 95
        keys := .build 48 fun k => ⟨fns.getD k.val .unused, false, k.val == 7⟩
        slots := (Tbl.replicate 4 none).set 3 (some 6) }
    roster := s.roster.setP panel { s.entry panel with selected := selected, keys := (s.entry panel).keys.set 0 .down } }

/-- R112, R203: an EMPTY entry sends none of its six fields that may be absent; with a destination selected, its bit and its byte come. -/
theorem test_readRoster_entry :
    (base.entryBytes panel).take 4 = [0#8, 0#8, 0#8, 5#8]
      ∧ ((keyedPanel .empty (some 63)).entryBytes ⟨0, 0⟩).take 8 = [0#8, 0x1F#8, 0#8, 32#8, 2#8, 4#8, 0#8, 5#8]
      ∧ ((keyedPanel .empty (some 63)).entryBytes ⟨0, 0⟩)[8]? = some 63#8 := by decide +kernel
/-- The keyed panel with its first key's talk 0 and its second's listen 0, called by port 10 through talk 1, and a wrong press showing. -/
def talkingPanel : State :=
  let s := keyedPanel .active (some 63)
  { s with
    talk := { s.talk with
      talks := (s.talk.talks.set 0 (some ⟨95, .port 11, .panel panel 0, false, .complete, [11]⟩)).set 1
        (some ⟨11, .port 95, .link, true, .complete, [95]⟩)
      listens := s.talk.listens.set 0 (some ⟨95, .group 15, .panel panel 1, .pending, []⟩)
      listeners := (s.talk.listeners.set 11 ⟨[⟨95, [.talk 0], false, 0⟩], []⟩).set 95 ⟨[⟨11, [.talk 1], false, 1⟩], []⟩
      keys := s.talk.keys.setP panel ((s.talk.keys.getP panel).set 0 (.held 9)) }
    map := { s.map with cameraPort := s.map.cameraPort.set 6 (some 95) }
    xpt := { s.xpt with takes := [⟨63, some 5, .panel panel, false⟩] }
    lamps := { s.lamps with refused := s.lamps.refused.setP panel ((s.lamps.refused.getP panel).set 3 true) } }

theorem test_meets_LampsAndFabricStaySettled :
    let s := base.settle
    s.composed ∧ s.fabric.choose = s.fabric ∧ step s = .next { s with clock := 1 }
      ∧ talkingPanel.talk.talkOf (.panel panel 0) = some 0 ∧ talkingPanel.talk.talkOf (.panel panel 6) = none
      ∧ talkingPanel.talk.listenOf (.panel panel 1) = some 0 ∧ (talkingPanel.entry panel).selected = some 63
      ∧ (talkingPanel.lamps.refused.getP panel).get 3 = true ∧ (talkingPanel.keyMap panel).slots.get 3 = some 6
      ∧ talkingPanel.lamp panel 0 = .lit .green .steady ∧ talkingPanel.lamp panel 3 = .lit .red .fast
      ∧ talkingPanel.lamp panel 51 = .lit .amber .slow :=
  ⟨State.settle_composed base, Fabric.choose_choose base.fabric, rfl, by decide +kernel⟩

/-- Port 11 hears port 10, by talk 0 and as circuit 0's programme; port 12 is talked to by nobody. -/
def talking : State :=
  { base with
    talk :=
      { base.talk with
        talks := base.talk.talks.set 0 (some ⟨10, .ifb 0, .gpi 15, false, .complete, [11]⟩)
        listens := base.talk.listens.set 63 (some ⟨95, .group 15, .link, .pending, []⟩)
        listeners := base.talk.listeners.set 11 ⟨[⟨10, [.talk 0, .program 0], true, 0⟩], []⟩
        groups := base.talk.groups.set 15 [95]
        circuits := base.talk.circuits.set 0 ⟨some 11, 10, 30⟩ } }

/-- The tables keep their shape where these checks, which can be evaluated, hold. -/
theorem listsWf_of {t : Talk}
    (h : ∀ p : PortId,
      let l := t.listeners.get p
      (l.talkers.length ≤ 8 ∧ l.waits.length ≤ 8 ∧ (l.talkers.map fun e => e.talker).Nodup ∧ (∀ e ∈ l.talkers, e.causes ≠ []))
        ∧ (∀ e ∈ l.talkers, e.talker ≠ p) ∧ (∀ w ∈ l.waits, w.talker ≠ p) ∧ (l.waits ≠ [] → l.talkers.length = 8)
        ∧ ∀ w ∈ l.waits, ∀ e ∈ l.talkers, e.talker ≠ w.talker)
    (talks : ∀ i : TalkId, ∀ r ∈ t.talks.get i, r.talker ∉ r.listeners ∧ r.listeners.Pairwise (· < ·))
    (listens : ∀ i : ListenId, ∀ r ∈ t.listens.get i, r.listener ∉ r.talkers ∧ r.talkers.Nodup)
    (groups : ∀ g : GroupId, (t.groups.get g).length ≤ 24 ∧ (t.groups.get g).Nodup)
    (circuits : ∀ i : CircuitId, (t.circuits.get i).talent ≠ some (t.circuits.get i).program) : t.listsWf :=
  ⟨fun p => ⟨(h p).1.1, (h p).1.2.1, (h p).1.2.2.1, (h p).1.2.2.2, (h p).2.1, (h p).2.2.1, (h p).2.2.2.1, (h p).2.2.2.2⟩,
    fun i r hr => (talks i r hr).1, fun i r hr => (listens i r hr).1, fun i r hr => (talks i r hr).2,
    fun i r hr => (listens i r hr).2, groups, circuits⟩

/-- The talk engine's tables of that state keep their shape. -/
theorem talking_listsWf : talking.talk.listsWf :=
  listsWf_of (by decide +kernel) (by decide +kernel) (by decide +kernel) (by decide +kernel) (by decide +kernel)

/-- Port 0 with a full talker list, talker 10 by link talk 5 and seven others by listens, and talker 30 waiting. -/
def crowded : State :=
  let others : List TalkerEntry := (indices 7).map fun i => ⟨⟨i.val + 20, by omega⟩, [.listen 0], false, byteOf (i.val + 1) |>.setWidth 32⟩
  { base with
    talk :=
      { base.talk with
        talks := base.talk.talks.set 5 (some ⟨10, .port 0, .link, true, .complete, [0]⟩)
        listens := (base.talk.listens.set 0 (some ⟨0, .group 15, .link, .complete, (indices 7).map fun i => ⟨i.val + 20, by omega⟩⟩)).set 1
          (some ⟨0, .port 30, .link, .pending, [30]⟩)
        listeners := base.talk.listeners.set 0 ⟨⟨10, [.talk 5], false, 0⟩ :: others, [⟨30, .listen 1⟩]⟩ } }

/-- R142: the talk's end frees a place, which goes to the waiting talker. R140, R141: with every other place taken by listens, a priority talk
displaces the newest of them, whose cause then waits at the front. -/
theorem test_talk_crowded :
    let off := after (.talk 1 0 0 10 ⟨0, 0⟩) crowded
    let on := after (.talk 1 0 1 95 ⟨0, 0⟩) crowded
    (off.talk.listeners.get 0).talkers.map (·.talker) = [20, 21, 22, 23, 24, 25, 26, 30] ∧ (off.talk.listeners.get 0).waits = []
      ∧ (on.talk.listeners.get 0).talkers.map (·.talker) = [10, 20, 21, 22, 23, 24, 25, 95]
      ∧ (on.talk.listeners.get 0).waits = [⟨26, .listen 0⟩, ⟨30, .listen 1⟩] := by decide +kernel
/-- R145: a listen's end takes its talkers out in turn, the first place it frees going to the waiting talker. -/
theorem test_talk_listen_off :
    let t := after (.talk 1 1 0 0 ⟨1, 15⟩) crowded
    (t.talk.listeners.get 0).talkers.map (·.talker) = [10, 30] ∧ (t.talk.listeners.get 0).waits = [] ∧ t.talk.listens.get 0 = none := by
  decide +kernel

/-- The talk engine's tables of that state keep their shape. -/
theorem crowded_listsWf : crowded.talk.listsWf :=
  listsWf_of (by decide +kernel) (by decide +kernel) (by decide +kernel) (by decide +kernel) (by decide +kernel)

/-- Circuit 0's PROGRAM cause stands in that state. -/
theorem talking_programsStand : talking.talk.programsStand := by
  have h : ∀ i : CircuitId, ∀ n ∈ (talking.talk.circuits.get i).talent, ∃ e ∈ (talking.talk.listeners.get n).talkers,
      e.talker = (talking.talk.circuits.get i).program ∧ Cause.program i ∈ e.causes := by decide +kernel
  have h1 : ∀ p : PortId, (talking.talk.listeners.get p).waits = [] := by decide +kernel
  exact ⟨h, fun p w hw => by simp [h1 p] at hw⟩

/-- Talk 0 of a group of one, port 95 talking to port 11. -/
def grouping : State :=
  { base with
    talk :=
      { base.talk with
        talks := base.talk.talks.set 0 (some ⟨95, .group 15, .link, true, .complete, [11]⟩)
        listeners := base.talk.listeners.set 11 ⟨[⟨95, [.talk 0], false, 0⟩], []⟩
        groups := base.talk.groups.set 15 [11] } }

/-- The talk engine's tables of that state keep their shape. -/
theorem grouping_listsWf : grouping.talk.listsWf :=
  listsWf_of (by decide +kernel) (by decide +kernel) (by decide +kernel) (by decide +kernel) (by decide +kernel)

/-- R144: port 11 leaves and port 12 joins, the talker's own port never; and a listen's talkers leave in the held order, the first freed place
going to the waiting talker, before its new one joins. -/
theorem test_setGroup_moves :
    let t := after (.setGroup 1 15 [95, 12]) grouping
    let u := after (.setGroup 1 15 [27, 20]) crowded
    (t.talk.listeners.get 11).talkers = [] ∧ (t.talk.listeners.get 12).talkers.map (·.talker) = [95]
      ∧ (u.talk.listeners.get 0).talkers.map (·.talker) = [10, 20, 30, 27] ∧ (u.talk.listeners.get 0).waits = [] := by decide +kernel

/-- Talk 0 alone reaches each port, and listen 0 alone reaches its listener, through a SET_GROUP of their groups. -/
theorem test_meets_SetGroupWritesMembers_alone :
    (∀ p c, Reaches grouping (after (.setGroup 1 15 [95, 12]) grouping) (.group 15) p c → c = .talk 0)
      ∧ ∀ c, Reaches crowded (after (.setGroup 1 15 [27, 20]) crowded) (.group 15) 0 c → c = .listen 0 := by
  have h : ∀ id : TalkId, (grouping.talk.talks.get id ≠ none → id = 0)
      ∧ ((after (.setGroup 1 15 [95, 12]) grouping).talk.talks.get id ≠ none → id = 0) := by decide +kernel
  have h1 : ∀ id : ListenId, grouping.talk.listens.get id = none := by decide +kernel
  have h2 : ∀ id : TalkId, (∀ r ∈ crowded.talk.talks.get id, r.target ≠ .group 15)
      ∧ ∀ r ∈ (after (.setGroup 1 15 [27, 20]) crowded).talk.talks.get id, r.target ≠ .group 15 := by decide +kernel
  have h3 : ∀ id : ListenId, ∀ r ∈ crowded.talk.listens.get id, r.target = .group 15 → id = 0 := by decide +kernel
  constructor
  · rintro p (id | id | i) hr
    · rcases hr with ⟨r, hr, -⟩ | ⟨r, hr, -⟩
      · rw [(h id).1 (by simp [hr])]
      · rw [(h id).2 (by simp [hr])]
    · obtain ⟨r, hr, -⟩ := hr
      simp [h1 id] at hr
    · exact hr.elim
  · rintro (id | id | i) hr
    · rcases hr with ⟨r, hr, ht, -⟩ | ⟨r, hr, ht, -⟩
      · exact absurd ht ((h2 id).1 r hr)
      · exact absurd ht ((h2 id).2 r hr)
    · obtain ⟨r, hr, ht, -⟩ := hr
      rw [h3 id r hr ht]
    · exact hr.elim

theorem test_meets_ListenerRecordsStayWellFormed : talking.talk.listsWf ∧ step talking = .next { talking with clock := 1 } :=
  ⟨talking_listsWf, rfl⟩
theorem test_meets_ProgramFeedsStand :
    talking.talk.listsWf ∧ talking.talk.programsStand ∧ step talking = .next { talking with clock := 1 } :=
  ⟨talking_listsWf, talking_programsStand, rfl⟩
theorem test_meets_OutputsFollowTheirConditions :
    let s := { base with gpio := { base.gpio with outputs := base.gpio.outputs.set 15 ⟨.freeRun, true⟩ } }
    s.gpioAgrees ∧ step s = .next { s with clock := 1 } := by
  refine ⟨⟨fun p => ?_, ?_, ?_, ?_, ?_, ⟨fun _ => ⟨_, rfl⟩, fun _ => rfl⟩, ?_⟩, rfl⟩
  · cases p <;> decide +kernel
  all_goals decide +kernel

/-! ### Requests -/

theorem test_meets_SetClassWritesTheBlock :
    base.link.quiet ∧ classOf 0 = some .camera ∧ base.map.classes.get 0 = .camera ∧ classOf 5 = some .utility
      ∧ base.map.classes.get 15 = .utility ∧ 6 ≤ 6 ∧ 6 ≤ 255 ∧ 16 ≤ 16 := ⟨quiet_base, by decide +kernel⟩
theorem test_meets_SetCameraWritesThePort :
    base.link.quiet ∧ optIndexOf 96 95 = some (some 95) ∧ optIndexOf 96 255 = some none ∧ base.map.classAt 127 ≠ .camera
      ∧ base.map.classAt 0 = .camera ∧ base.map.cameraPort.get 0 = none ∧ 96 ≤ 254 ∧ 128 ≤ 128 := ⟨quiet_base, by decide +kernel⟩
theorem test_meets_SetInputWritesOneMap :
    base.link.quiet ∧ inputEntryOf 1 63 = some (.routed 63) ∧ inputEntryOf 2 127 = some (.direct 127) ∧ inputEntryOf 0 255 = some .unused
      ∧ (base.map.inputs.get .b).get 39 = .unused ∧ (base.map.inputs.get .a).get 9 = .direct 40 ∧ inputEntryOf 1 64 = none
      ∧ inputEntryOf 3 0 = none ∧ 2 ≤ 2 ∧ 40 ≤ 40 := ⟨quiet_base, by decide +kernel⟩
theorem test_meets_SetDestWritesPresentFields :
    base.link.quiet ∧ optOf prod3Of (some 2) = some (some .both) ∧ optOf boolOf (some 1) = some (some true) ∧ optOf boolOf none = some none
      ∧ base.map.attrs.get 63 = ⟨.both, false, false⟩ ∧ optOf prod3Of (some 3) = none ∧ optOf boolOf (some 2) = none ∧ 64 ≤ 64 :=
  ⟨quiet_base, by decide +kernel⟩
theorem test_meets_SetThresholdClampsAndWrites :
    base.link.quiet ∧ prod3Of 0 = some .a ∧ prod3Of 2 = some .both ∧ Prod3.includes .a .b = false ∧ Prod3.includes .both .b = true ∧ 3 ≤ 3 :=
  ⟨quiet_base, by decide +kernel⟩
theorem test_meets_LoopRequestsEnableRestartDisable :
    running.link.quiet ∧ optOf boolOf (some 1) = some (some true) ∧ optOf boolOf (some 2) = none ∧ optOf rateOf (some 4) = some (some .auto)
      ∧ optOf rateOf (some 5) = none ∧ (running.loop 0).state ≠ .disabled ∧ (running.loop 3).state = .disabled
      ∧ (running.loop 0).rate = .r125000 ∧ 4 ≤ 4 ∧ optOf boolOf (some 0) = some (some false)
      ∧ ((waiting .active 0 .stateQuery).entry panel).state ≠ .empty := ⟨quiet_base, by decide +kernel⟩
theorem test_meets_SetKeymapWritesAssignments :
    base.link.quiet ∧ panelOf 3 16 = some ⟨3, 15⟩ ∧ optOf (optIndexOf 96) (some 255) = some (some none)
      ∧ allOf keyAssignOf [⟨47, 6, 0, 47, false, false⟩] = some [(47, ⟨.salvo 47, false, false⟩)] ∧ panelOf 3 17 = none ∧ panelOf 0 0 = none
      ∧ allOf keyAssignOf [⟨48, 0, 0, 0, false, false⟩] = none ∧ ¬ [47, 47].Nodup
      ∧ ((base.keyMap panel).keys.get 47).fn ≠ .salvo 47 ∧ (base.keyMap panel).port = none
      ∧ (talkingPanel.keyMap panel).port = some 95 ∧ ((talkingPanel.keyMap panel).keys.get 0).fn ≠ .unused
      ∧ talkingPanel.talk.talkOf (.panel panel 0) = some 0 ∧ talkingPanel.talk.listenOf (.panel panel 1) = some 0
      ∧ (TalkOrigin.panel panel 0).ofPanel panel = true ∧ TalkOrigin.link.ofPanel panel = false := ⟨quiet_base, by decide +kernel⟩
theorem test_meets_SetSlotsWritesPresentSlots :
    base.link.quiet ∧ panelOf 0 1 = some panel ∧ optOf (optIndexOf 128) (some 127) = some (some (some 127))
      ∧ optOf (optIndexOf 128) none = some none ∧ optOf (optIndexOf 128) (some 128) = none := ⟨quiet_base, by decide +kernel⟩
theorem test_meets_SetGroupWritesMembers :
    base.link.quiet ∧ grouping.link.quiet ∧ grouping.talk.listsWf ∧ crowded.link.quiet ∧ crowded.talk.listsWf
      ∧ ([95, 0] : List PortId).Nodup ∧ base.talk.groups.get 15 = [] ∧ base.talk.groups.get 15 ≠ [95, 0] ∧ 16 ≤ 16
      ∧ 24 < (List.range 25).length ∧ ¬ [3, 3].Nodup ∧ 96 ≤ 96 ∧ grouping.talk.groups.get 15 ≠ [95, 12]
      ∧ crowded.talk.groups.get 15 ≠ [27, 20] :=
  ⟨quiet_base, quiet_base, grouping_listsWf, quiet_base, crowded_listsWf, by decide +kernel⟩
/-- One circuit for each clause: held already, taken by another circuit, without room, and free. -/
theorem test_meets_SetIfbConfiguresTheCircuit :
    let full : Listener := ⟨(indices 8).map fun i => ⟨⟨i.val + 20, by omega⟩, [.listen 0], false, 0⟩, []⟩
    let t := { talking.talk with listeners := talking.talk.listeners.set 95 full }
    talking.link.quiet ∧ talking.talk.listsWf ∧ talking.talk.programsStand ∧ optIndexOf 96 11 = some (some 11)
      ∧ talking.talk.ifbRefusal 0 ⟨some 11, 10, 30⟩ = none ∧ talking.talk.circuits.get 0 = ⟨some 11, 10, 30⟩
      ∧ talking.talk.ifbRefusal 15 ⟨some 11, 10, 0⟩ = some .state ∧ t.ifbRefusal 15 ⟨some 95, 0, 0⟩ = some .full
      ∧ talking.talk.ifbRefusal 15 ⟨some 11, 95, 0⟩ = none ∧ talking.talk.circuits.get 15 ≠ ⟨some 11, 95, 0⟩ ∧ 16 ≤ 16 ∧ 96 ≤ 96
      ∧ optIndexOf 96 96 = none :=
  ⟨quiet_base, talking_listsWf, talking_programsStand, by decide +kernel⟩
/-- Targets and tables for each clause: one's own port, a talent, a circuit without talent, a talk to create and one to end. -/
theorem test_meets_TalkRequestCreatesAndEnds :
    let mine := after (.talk 1 0 1 95 ⟨0, 0⟩) base
    let hears := after (.talk 1 1 1 95 ⟨1, 15⟩) base
    let fullTalks := { base.talk with talks := .replicate 128 (some ⟨1, .port 2, .gpi 0, false, .pending, []⟩)
                                      listens := .replicate 64 (some ⟨1, .port 2, .gpi 0, .pending, []⟩) }
    talking.link.quiet ∧ crowded.link.quiet ∧ crowded.talk.listsWf ∧ targetOf ⟨0, 95⟩ = some (.port 95) ∧ targetOf ⟨3, 16⟩ = none ∧ talking.talk.talentIs (.ifb 0) 11 = true
      ∧ talking.talk.talentIs (.ifb 0) 95 = false ∧ base.talk.noTalent (.ifb 15) = true ∧ talking.talk.noTalent (.ifb 0) = false
      ∧ base.talk.linkTalk 95 (.port 0) = none ∧ mine.talk.linkTalk 95 (.port 0) = some 0 ∧ base.talk.freeTalk = some 0
      ∧ fullTalks.freeTalk = none ∧ listenTargetOf ⟨1, 15⟩ = some (.group 15) ∧ listenTargetOf ⟨2, 0⟩ = none
      ∧ base.talk.linkListen 95 (.group 15) = none ∧ hears.talk.linkListen 95 (.group 15) = some 0 ∧ base.talk.freeListen = some 0
      ∧ fullTalks.freeListen = none ∧ fullTalks.linkTalk 95 (.port 0) = none
      ∧ crowded.talk.linkTalk 10 (.port 0) = some 5 ∧ crowded.talk.linkTalk 95 (.port 0) = none ∧ crowded.talk.freeTalk = some 0
      ∧ crowded.talk.linkListen 0 (.group 15) = some 0 ∧ grouping.talk.linkListen 12 (.group 15) = none ∧ grouping.talk.freeListen = some 0
      ∧ 8 ≤ (crowded.talk.listeners.get 0).talkers.length ∧ (crowded.talk.listeners.get 95).talkers.length < 8 :=
  ⟨quiet_base, quiet_base, crowded_listsWf, by decide +kernel⟩
/-- Input 15 is active, and its mapping is TALK with a talk or without, or none; and the talk table is full. -/
theorem test_meets_SetGpiWritesMappingAndTime :
    let mapped (m : GpiMap) (level : Bool) : State :=
      { talking with gpio := { talking.gpio with inputs := talking.gpio.inputs.set 15 ⟨level, level, 20, none, m⟩ } }
    base.link.quiet ∧ optOf gpiMapOf (some (.forceRed 127 2)) = some (some (.forceRed 127 .both)) ∧ base.map.classAt 127 = .utility
      ∧ optOf gpiMapOf (some (.forceRed 0 0)) = some (some (.forceRed 0 .a)) ∧ base.map.classAt 0 ≠ .utility
      ∧ (base.gpi 15).mapping = .unmapped ∧ optOf gpiMapOf (some (.other 4)) = none ∧ optOf gpiMapOf none = some none ∧ 16 ≤ 16
      ∧ optOf gpiMapOf (some (.talk 95 ⟨0, 0⟩)) = some (some (.talk 95 (.port 0))) ∧ ((mapped (.talk 10 (.ifb 0)) true).gpi 15).level = true
      ∧ ((mapped (.talk 10 (.ifb 0)) false).gpi 15).mapping.isTalk = true ∧ ((mapped (.arm 63) true).gpi 15).mapping.isTalk = false
      ∧ talking.talk.talkOf (.gpi 15) = some 0 ∧ base.talk.talkOf (.gpi 15) = none ∧ talking.talk.invalidTarget 95 (.port 0) = false
      ∧ talking.talk.invalidTarget 11 (.ifb 0) = true ∧ talking.talk.talks.get 1 = none
      ∧ (∀ id, (Tbl.replicate 128 (some ⟨1, .port 2, .gpi 0, false, .pending, []⟩) : Tbl 128 (Option TalkRec)).get id ≠ none) :=
  ⟨quiet_base, by decide +kernel⟩
theorem test_meets_SetGpoMapsAndEvaluates :
    base.link.quiet ∧ gpoMapOf (.talking 95) = some (.talking 95) ∧ gpoMapOf .unmapped = some .unmapped
      ∧ (base.gpio.outputs.get 15).mapping = .unmapped ∧ gpoMapOf (.talking 96) = none ∧ 16 ≤ 16 := ⟨quiet_base, by decide +kernel⟩
theorem test_meets_PlainSettingsAreWritten :
    base.link.quiet ∧ (∀ k, 13 ≤ k → (0x1FFF#16).getLsbD k = false) ∧ 13 ≤ 13 ∧ (0x2000#16).getLsbD 13 = true := by
  refine ⟨quiet_base, fun k hk => ?_, by decide, by decide⟩
  by_cases h : k < 16
  · have h' : k = 13 ∨ k = 14 ∨ k = 15 := by omega
    obtain rfl | rfl | rfl := h' <;> decide
  · exact BitVec.getLsbD_of_ge _ _ (by omega)

/-- Destination 63 locked by a panel, destination 0 by LINK. -/
def locked : State :=
  { base with xpt := { base.xpt with dests := (base.xpt.dests.set 63 { Dest.reset with lock := some ⟨.panel panel, none⟩ }).set 0
                                               { Dest.reset with lock := some ⟨.link, none⟩ } } }

theorem test_meets_TakeEntersTheTakeList :
    let old : TakeEntry := ⟨63, none, .link, false⟩
    let s := { base with xpt := { base.xpt with takes := [old] } }
    base.link.quiet ∧ s.xpt.listWf ∧ feedOf 127 = some (some 127) ∧ feedOf 255 = some none ∧ feedOf 128 = none
      ∧ returning.map.breaksReturn (some 72) 3 = true ∧ base.map.breaksReturn none 63 = false
      ∧ (locked.dest 63).lock = some ⟨.panel panel, none⟩ ∧ (locked.dest 0).lock = some ⟨.link, none⟩ ∧ (locked.dest 1).lock = none
      ∧ base.xpt.takes = [] ∧ old ∈ s.xpt.takes ∧ 64 ≤ 64 := ⟨quiet_base, ⟨by decide, by decide⟩, by decide +kernel⟩
theorem test_meets_LockAndUnlock :
    locked.link.quiet ∧ (locked.dest 1).lock = none ∧ (locked.dest 0).lock = some ⟨.link, none⟩
      ∧ (locked.dest 63).lock = some ⟨.panel panel, none⟩ ∧ Identity.panel panel ≠ .link ∧ 64 ≤ 64 := ⟨quiet_base, by decide +kernel⟩
theorem test_meets_SalvoRequestsStartOperations :
    let idle := { base with store := { base.store with state := .idle, pages := base.store.pages.set 47 ⟨.bad, [], false⟩ } }
    base.link.quiet ∧ allOf salvoEntryOf [⟨63, 255⟩] = some [⟨63, none⟩] ∧ base.store.state ≠ .idle ∧ idle.store.state = .idle
      ∧ (idle.store.pages.get 0).state = .empty ∧ (idle.store.pages.get 47).state ≠ .empty ∧ optIndexOf 48 47 = some (some 47)
      ∧ optIndexOf 48 255 = some none ∧ idle.store.header.bad = false ∧ idle.store.header.boot = none ∧ 48 ≤ 48
      ∧ 32 < (List.replicate 33 (⟨0, 0⟩ : RawEntry)).length ∧ allOf salvoEntryOf [⟨64, 0⟩] = none := ⟨quiet_base, by decide +kernel⟩
theorem test_meets_SalvoRecallHandsTheGroup :
    let pages := (base.store.pages.set 47 ⟨.valid, [⟨63, none⟩, ⟨0, some 127⟩], false⟩).set 46 ⟨.bad, [], false⟩
    let s := { locked with store := { base.store with state := .idle, pages := pages } }
    locked.link.quiet ∧ base.store.busyFor 0 = true ∧ s.store.busyFor 47 = false ∧ (s.store.pages.get 0).state = .empty
      ∧ (s.store.pages.get 46).state = .bad ∧ (s.store.pages.get 47).state = .valid ∧ 48 ≤ 48 := ⟨quiet_base, by decide +kernel⟩
/-- A RESTART at the head of the queue with a LOCK behind it, a reply about to leave the slot, and a notice, a GAP and locks to be lost. -/
def restarting : State :=
  let r : Reply := ⟨9, .done, 0x0F, []⟩
  { locked with
    link := { locked.link with
      requests := [⟨7, .restart⟩, ⟨8, .lock 63⟩], replies := [⟨true, r⟩], sending := some r.frame
      notices := [⟨5, .frameLocked⟩], gapFlag := true, dropped := 2 } }

/-- R200: the reply names the LOCK that goes unserved and counts the one notice; the first notice after it tells the locks cleared (R38). -/
theorem test_restart_waiting :
    let t := after .clTransmitComplete restarting
    t.link.replies = [⟨true, ⟨7, .done, 0x18, [1#8, 8#8, 0x10#8, 1#8]⟩⟩] ∧ t.link.requests = [] ∧ t.link.gapFlag = false
      ∧ t.link.notices.map (·.notice) = [.locksCleared [(0, .link), (63, .panel panel)]] ∧ (t.dest 63).lock = none := by decide +kernel
theorem test_meets_RestartEmptiesTheDevice :
    talking.link.quiet ∧ (running.loop 0).state ≠ .disabled ∧ (running.loop 3).state = .disabled ∧ restarting.link.sending.isSome = true
      ∧ restarting.link.requests = ⟨7, .restart⟩ :: [⟨8, .lock 63⟩] ∧ restarting.link.replies = ⟨true, ⟨9, .done, 0x0F, []⟩⟩ :: []
      ∧ ((outstanding (.probe 6) 0).card (audioCard 95)).presence = .present ∧ (base.card (audioCard 95)).presence ≠ .present :=
  ⟨quiet_base, by decide +kernel⟩
theorem test_meets_ReadsChangeNothing :
    talking.link.quiet ∧ (talking.talk.talks.get 0).isSome = true ∧ talking.talk.talks.get 127 = none ∧ talking.store.busyFor 47 = true :=
  ⟨quiet_base, by decide +kernel⟩

/-- A reply in the reply slot, `n` waiting requests and `m` immediate replies, the transmitter busy. -/
def slotted (n m : Nat) : State :=
  let r : Reply := ⟨9, .done, 0x0F, []⟩
  { base with
    link := { base.link with
      requests := List.replicate n ⟨7, .lock 63⟩, replies := ⟨true, r⟩ :: List.replicate m ⟨false, r⟩, sending := some r.frame } }

theorem test_meets_RequestsWaitForTheSlot :
    (Instr.take 255 63 0 false).request = some (255, .take 63 0 false) ∧ (slotted 3 0).link.wf ∧ (slotted 3 0).link.requests.length < 4
      ∧ (slotted 4 3).link.wf ∧ (slotted 4 3).link.requests.length = 4 ∧ (slotted 4 3).link.immediate < 4
      ∧ (slotted 4 4).link.wf ∧ (slotted 4 4).link.immediate = 4 ∧ (slotted 3 0).link.slotHeld = true ∧ (slotted 4 4).link.slotHeld = true := by
  refine ⟨rfl, ?_, by decide, ?_, by decide, by decide, ?_, by decide, by decide, by decide⟩ <;>
    exact ⟨by decide, by decide, by decide, by decide, rfl, fun _ => by decide, fun h => by cases h⟩

/-! ### Frames, mixers and computations -/

/-- The control link's receiver holding some bytes of a frame. -/
def collecting (bytes : List Byte) : State := { base with link := { base.link with rx := .collecting bytes 48000 } }

theorem test_meets_ControlLinkFramesAreJudged :
    base.link.quiet ∧ base.link.rx = .hunting ∧ (collecting [2#8, 0x18#8]).link.quiet ∧ (collecting []).link.rx = .collecting [] 48000
      ∧ (1#8).toNat < 2 ∧ 250 < (251#8).toNat ∧ 2 ≤ (2#8).toNat ∧ (250#8).toNat ≤ 250
      ∧ [2#8, 0x18#8].length + 1 < (2#8).toNat + 2 ∧ (2#8).toNat + 2 ≤ [2#8, 0x18#8, 9#8].length + 1 ∧ byteSum [2#8, 0x18#8, 9#8, 0#8] ≠ 0
      ∧ 0x1F < (0x20#8).toNat ∧ decodeRequest 0x01 [0#8] = none ∧ decodeRequest 0x1F [5#8] = some (.readStatus 5) :=
  ⟨quiet_base, rfl, quiet_base, by decide +kernel⟩
theorem test_meets_TransmitterChoosesTheNextFrame :
    let f : OutFrame := ⟨0x40, 9, []⟩
    let busy (l : Link) : Link := { l with sending := some f }
    let reply : PendingReply := ⟨true, ⟨9, .done, 0x0F, []⟩⟩
    (busy base.link).sending.isSome = true ∧ (busy base.link).requests = [] ∧ (busy base.link).serving = false
      ∧ (busy { base.link with replies := [reply] }).replies = reply :: []
      ∧ (busy { base.link with continuation := some ⟨0x42, 0, 127, List.replicate 248 0#8⟩ }).continuation
          = some ⟨0x42, 0, 127, List.replicate 248 0#8⟩
      ∧ (busy { base.link with notices := [⟨255, .frameLocked⟩], gapFlag := true }).notices = ⟨255, .frameLocked⟩ :: []
      ∧ (busy { base.link with gapFlag := true }).gapFlag = true ∧ (busy base.link).gapFlag = false ∧ (busy base.link).notices = []
      ∧ (busy base.link).replies = [] ∧ (busy base.link).continuation = none
      ∧ (slotted 1 0).link.sending.isSome = true ∧ (slotted 1 0).link.serving = false ∧ (slotted 1 0).link.requests = ⟨7, .lock 63⟩ :: []
      ∧ (slotted 4 4).link.requests.length = 4 ∧ (slotted 4 4).link.replies.length = 5
      ∧ (Instr.lock 7 63).request = some (7, .lock 63) := by decide +kernel
/-- R191, R197: the slot's reply has left, so the LOCK at the head of the queue is served and its reply fills the slot; an immediate reply
that leaves while the slot is held lets none in. -/
theorem test_clTransmitComplete_serves :
    let t := after .clTransmitComplete (slotted 2 1)
    let s := slotted 1 0
    let held := after .clTransmitComplete { s with link := { s.link with replies := ⟨false, ⟨9, .busy, 0x0F, []⟩⟩ :: s.link.replies } }
    (t.dest 63).lock = some ⟨.link, none⟩ ∧ t.link.requests = [⟨7, .lock 63⟩] ∧ t.link.replies.map (·.slot) = [false, true]
      ∧ (held.dest 63).lock = none ∧ held.link.requests = [⟨7, .lock 63⟩] := by decide +kernel
theorem test_meets_MixerRecordsApply :
    (base.mixers.get .a).rx = .hunting ∧ (base.mixers.get .a).state = .live 12000000 ∧ (base.mixers.get .b).rx = .hunting
      ∧ (base.mixers.get .b).state = .stale none
      ∧ (⟨3, ⟨255, 255⟩, ⟨0, 39⟩, 65535, ⟨3, 0⟩, 0, ⟨1, 3⟩, 1024⟩ : RawStage).wf = true := by decide +kernel
theorem test_meets_MixerFaultsAndSilence :
    let m : MixerPort := { MixerPort.reset with rx := .collecting [2#8, 0x61#8] 48000 }
    m.rx = .collecting [2#8, 0x61#8] 48000 ∧ MixerPort.reset.rx = .hunting ∧ [2#8, 0x61#8].length + 1 < (2#8).toNat + 2
      ∧ (2#8).toNat + 2 ≤ [2#8, 0x61#8, 9#8].length + 1 ∧ byteSum [2#8, 0x61#8, 9#8, 0#8] ≠ 0
      ∧ (base.mixers.get .b).state = .stale none ∧ (base.mixers.get .a).state = .live 12000000
      ∧ (2#8).toNat + 2 = [2#8, 0x62#8, 9#8].length + 1 ∧ byteSum ([2#8, 0x62#8, 9#8] ++ [0x93#8]) = 0
      ∧ byteSum ([3#8, 0x61#8, 9#8, 0#8] ++ [0x93#8]) = 0 ∧ byteSum ([3#8, 0x60#8, 9#8, 0#8] ++ [0x94#8]) = 0
      ∧ byteSum ([17#8, 0x60#8, 9#8, 4#8] ++ List.replicate 14 0#8 ++ [0x82#8]) = 0
      ∧ (⟨255, ⟨0, 0⟩, ⟨0, 0⟩, 0, ⟨0, 0⟩, 0, ⟨0, 0⟩, 0⟩ : RawStage).wf = true := by decide +kernel
/-- Each colour's condition is met in some snapshot. -/
theorem test_meets_ComputationPublishes :
    let x := base.snapshot .a
    let armed := { x with attrs := x.attrs.set 63 ⟨.both, true, true⟩, dests := x.dests.set 63 (some 1, .verified) }
    base.engines.a.running = none ∧ (base.startRun .a).engines.a.running = some (base.snapshot .a)
      ∧ ((base.startRun .a).engines.get .a).running.isSome = true
      ∧ x.classes.get (blockOf 127) = .utility ∧ x.classes.get (blockOf 5) = .camera ∧ x.thresholds.air ≤ ((x.compute .a).1.get 5).air
      ∧ ((x.compute .a).1.get 40).colour = .red ∧ (armed.attrs.get 63).record = true ∧ (armed.dests.get 63).1 = some 1
      ∧ ((armed.compute .a).1.get 1).colour = .amber ∧ ((x.compute .a).1.get 1).colour = .none := by decide +kernel
theorem test_meets_StageWeightsFollowTheThreeSteps :
    StageRec.inRange 3 ⟨.input 39, .stage 1, 1024, .matte, 0, .black, 1024⟩ :=
  ⟨by decide, by decide, by decide, trivial, ⟨by decide, by decide⟩, trivial, trivial⟩
theorem test_meets_SharesSumToAtMostAWhole : stagesInRange (base.snapshot .a).stages := keyed_inRange

/-! ### Frame events and the fabric line -/

theorem test_meets_FrameWatcherLocksAndRunsFree :
    let s := { base with xpt := { base.xpt with watcher := ⟨.locked 2400000, some 384000, 0, some 0⟩ } }
    s.xpt.watcher.state = .locked 2400000 ∧ base.xpt.watcher.state = .freeRun 960000 ∧ State.reset.xpt.adopted = false
      ∧ base.xpt.takes = [] ∧ base.xpt.superseded = [] ∧ ∀ d, (base.dest d).state ≠ .retry false := by decide +kernel
/-- Destination 63 dispatched, 62 due for its second attempt, and the others staying; before adoption and after, at each of the three rows, with
every card known and with one ABSENT. -/
theorem test_meets_FrameEventMovesEachDestination :
    let e : TakeEntry := ⟨63, some 127, .link, false⟩
    let s := { base with xpt := { base.xpt with takes := [e], dests := base.xpt.dests.set 62 ⟨none, .retry false, 1, true, none, none⟩ } }
    let routed := s.map.inputs.a.set 39 (.routed 63)
    let u := { s with map := { s.map with inputs := ⟨routed, s.map.inputs.b⟩ }
                      fabric := { s.fabric with cards := s.fabric.cards.set 3 { Card.reset with presence := .absent } }
                      xpt := { s.xpt with watcher := ⟨.locked 2400000, some 384000, 0, some 0⟩ } }
    s.xpt.listWf ∧ u.xpt.listWf ∧ exec .framePulse s = .next (after .framePulse s) ∧ exec .frameLossTimeout u = .next (after .frameLossTimeout u)
      ∧ exec .freeRunPeriodExpiry s = .next (after .freeRunPeriodExpiry s) ∧ s.xpt.adopted = true ∧ State.reset.xpt.adopted = false
      ∧ u.xpt.watcher.state = .locked 2400000 ∧ s.xpt.watcher.state = .freeRun 960000
      ∧ e ∈ s.xpt.takes ∧ (s.dest 63).lock = none ∧ ¬ ((s.dest 63).state = .verified ∧ e.source = (s.dest 63).expected)
      ∧ (s.dest 62).state = .retry false ∧ (s.dest 0).state ≠ .retry false ∧ (∀ c, (s.card c).presence ≠ .absent)
      ∧ (u.card (videoCard 63)).presence = .absent ∧ (u.map.inputs.get .a).cells.any (· == .routed 63) = true
      ∧ (u.engines.get .a).pendingAdoption = false :=
  ⟨⟨by decide, by decide⟩, ⟨by decide, by decide⟩, rfl, rfl, rfl, by decide +kernel⟩
/-- A record of each kind, whole, unfinished and stray; an exchange of each record, superseded or not; an adoption under way, and its end. -/
theorem test_meets_FabricAnswersCloseExchanges :
    let asked := outstanding (.video (.xquery 63)) 0
    let adopting := { asked with
      fabric := { asked.fabric with cards := asked.fabric.cards.set 3 { asked.card 3 with progress := [63] } }
      xpt := { asked.xpt with adopted := false } }
    decodeCardRecord ((CardRecord.xecho 63 255 1).bytes ++ [0#8]) = some (.xecho 63 255 1) ∧ decodeCardRecord [0x21#8, 0x5F#8, 0x81#8] = none
      ∧ cardRecordLength 0x21#8 = some 3 ∧ cardRecordLength 0x20#8 = none ∧ base.fabric.rx = .awaitingGap
      ∧ (after (.fabricStrayRecord ⟨true, [0x21#8]⟩) base).fabric.rx = .collecting [0x21#8]
      ∧ feedOf 127 = some (some 127) ∧ base.fabric.exchanges.get 3 = none
      ∧ (outstanding (.video (.xset 63 none true)) 1).fabric.exchanges.get 3 = some ⟨.video (.xset 63 none true), false, 48000⟩
      ∧ asked.fabric.exchanges.get 3 = some ⟨.video (.xquery 63), false, 48000⟩ ∧ 63 ∈ (adopting.card 3).progress ∧ 63 ∉ (asked.card 3).progress
      ∧ (after (.xecho 63 255 0) adopting).xpt.adopted = true ∧ (after (.xecho 63 255 0) adopting).engines.a.running.isSome = true
      ∧ (outstanding (.aset ⟨95, []⟩) 1).fabric.exchanges.get (audioCard 95) = some ⟨.aset ⟨95, []⟩, false, 48000⟩
      ∧ (outstanding (.probe 6) 0).fabric.exchanges.get 6 = some ⟨.probe 6, false, 48000⟩ ∧ (1 : Nat) ≤ 1
      ∧ ((1 == 1) = !isVideo 6) ∧ ((0 == 1) = !isVideo 3) ∧ ((0 == 1) = isVideo 6) ∧ ((outstanding (.probe 6) 0).card 6).presence ≠ .unknown
      ∧ (probing 6 .unknown).fabric.exchanges.get 6 = some ⟨.probe 6, false, 48000⟩ ∧ ((probing 3 .unknown).card 3).presence = .unknown
      ∧ (∀ a ∈ (probing 6 .absent).fabric.audio, audioCard a.port ≠ 6) := by decide +kernel
theorem test_meets_FabricTimersExpire_queued : losing.fabric.queueWf := ⟨by decide, by decide⟩
theorem test_meets_FabricTimersExpire :
    base.fabric.sending = some ⟨.probe 0, false⟩ ∧ (outstanding (.probe 6) 0).fabric.sending = none ∧ (base.card 6).probe = none
      ∧ ({ Card.reset with probe := some 24000000 } : Card).probe = some 24000000 ∧ base.fabric.exchanges.get 6 = none
      ∧ (outstanding (.aset ⟨95, []⟩) 0).fabric.exchanges.get 6 = some ⟨.aset ⟨95, []⟩, false, 48000⟩
      ∧ FabRec.card (.aset ⟨95, []⟩) = 6 ∧ ((outstanding (.aset ⟨95, []⟩) 0).card 6).timeouts = 0
      ∧ ((outstanding (.video (.xquery 63)) 1).card 3).timeouts ≠ 0 ∧ ((outstanding (.probe 6) 0).card 6).presence ≠ .unknown
      ∧ (base.card 6).presence = .unknown ∧ ((outstanding (.video (.xset 63 none true)) 0).card 3).timeouts = 0
      ∧ FabRec.card (.video (.xset 63 none true)) = 3 ∧ base.xpt.adopted = true ∧ State.reset.xpt.adopted = false
      ∧ losing.fabric.exchanges.get 3 = some ⟨.video (.xset 63 none true), false, 48000⟩ ∧ (losing.card 3).timeouts ≠ 0
      ∧ (probing 3 .unknown).fabric.exchanges.get 3 = some ⟨.probe 3, false, 48000⟩ := by decide +kernel

/-! ### Loops, timers, contacts and the store -/

/-- A visit to an entry of each state, a further POLL that MORE asks for, an ENROL after a round, and a sixth exchange. -/
theorem test_meets_LoopMessagesBeginAndEnd :
    let polls := { waiting .active 0 .stateQuery with loops := running.loops }
    let asks := { waiting .joining 0 .stateQuery with loops := running.loops }
    let asks := { asks with roster := asks.roster.setP panel { asks.entry panel with ident := none } }
    let lost := { waiting .lost 0 .stateQuery with loops := running.loops }
    let silent := { waiting .silent 3 .stateQuery with loops := running.loops }
    let more (n : Nat) : Loop := { Loop.reset with state := .running, more := some (0, n), visited := 1 }
    let further := { polls with loops := running.loops.set 0 (more 1) }
    let full := { running with roster := .replicate 4 (.replicate 16 { RosterEntry.reset with state := .silent }) }
    let full := { full with loops := running.loops.set 0 { Loop.reset with state := .running, visited := 16 } }
    let shown := { waiting .active 0 (.poll []) with roster := polls.roster }
    (running.loop 0).state = .running ∧ (running.loop 0).exchange = none ∧ running.nextMessage 0 = some (.enrolFree 0)
      ∧ polls.nextMessage 0 = some (.poll 0) ∧ asks.nextMessage 0 = some (.query 0) ∧ lost.nextMessage 0 = some (.enrolLost 0)
      ∧ silent.nextMessage 0 = some (.poll 0) ∧ further.nextMessage 0 = some (.poll 0) ∧ (further.loop 0).more = some (0, 1)
      ∧ full.nextMessage 0 = some (.poll 0) ∧ (full.loop 0).visited < 17 ∧ asks.differing panel = [] ∧ (polls.differing panel).length = 34
      ∧ (running.loop 0).more = none ∧ (∀ a, (running.entry ⟨0, a⟩).state = .empty) ∧ (running.loop 0).enrolPosition = 16
      ∧ (base.loop 0).state ≠ .running ∧ ((waiting .active 0 .stateQuery).loop 0).exchange = some ⟨0, .stateQuery, .window 72000⟩
      ∧ ((after (.enrol 0) running).loop 0).exchange = some ⟨0, .enrol true, .sending⟩
      ∧ (shown.loop 0).buffer = [] ∧ (shown.loop 0).overrun = false ∧ (List.replicate 8 (⟨47, true⟩ : KeyEvent)).length ≤ 8 := by
  decide +kernel
theorem test_meets_LoopMissesAreCounted :
    let s := waiting .active 2 (.poll [])
    let gap := { s with loops := s.loops.set 0 { s.loop 0 with exchange := some ⟨0, .poll [], .reply (some 9)⟩ } }
    let c : LineChar := ⟨0x602#11, 0x602#11, 0x602#11⟩
    let ch : LoopChar := ⟨1#8, true, false, false⟩
    (s.loop 0).exchange = some ⟨0, .poll [], .window 72000⟩ ∧ (s.entry panel).missed ≤ 255 ∧ (s.entry panel).state = .active
      ∧ (gap.loop 0).exchange = some ⟨0, .poll [], .reply (some 9)⟩ ∧ (running.loop 0).exchange = none
      ∧ readChar c = some ch ∧ (running.loop 0).listens = true ∧ (running.loop 0).awaits = none
      ∧ (s.loop 0).state = .running ∧ (s.loop 0).buffer.length < 64 ∧ replyComplete [ch] = false
      ∧ replyComplete [ch, ⟨0x15#8, false, false, false⟩, ch] = true
      ∧ replyFault (s.loop 0) ⟨0, .poll [], .reply none⟩ [ch, ⟨0x15#8, false, false, false⟩, ch] false = some .check
      ∧ (∀ a, (s.entry ⟨0, a⟩).missed ≤ 255) ∧ (LoopMessage.poll []) ≠ .enrol true
      ∧ ((waiting .lost 255 (.enrol false)).loop 0).exchange = some ⟨0, .enrol false, .window 72000⟩ := by decide +kernel
/-- An exchange for each message, in its window and within its reply, with the entry in the states that its replies move. -/
theorem test_meets_LoopRepliesAreTaken :
    let s := waiting .empty 0 (.enrol true)
    let t := waiting .silent 3 (.poll [(51, .lit .red .fast)])
    let u := waiting .joining 0 .stateQuery
    let v := waiting .lost 10 (.enrol false)
    (s.loop 0).state = .running ∧ (s.loop 0).exchange = some ⟨0, .enrol true, .window 72000⟩ ∧ (s.loop 0).buffer = []
      ∧ (s.loop 0).overrun = false ∧ (s.entry panel).state = .empty ∧ panelKindOf 3 = some .combined
      ∧ (t.loop 0).exchange = some ⟨0, .poll [(51, .lit .red .fast)], .window 72000⟩ ∧ (t.entry panel).state = .silent
      ∧ (t.loop 0).more = none ∧ (List.replicate 8 (⟨47, true⟩ : KeyEvent)).length ≤ 8
      ∧ (u.loop 0).exchange = some ⟨0, .stateQuery, .window 72000⟩ ∧ (u.entry panel).state = .joining
      ∧ (v.loop 0).exchange = some ⟨0, .enrol false, .window 72000⟩ ∧ (v.entry panel).state = .lost
      ∧ (ExchangePhase.reply (some 9)) ≠ .sending ∧ (running.loop 0).awaits = none ∧ (base.loop 3).awaits = none := by decide +kernel
/-- The keys of panel (0, 1) and what each one's press and release finds: see keyedPanel. -/
theorem test_meets_LoopRepliesAreTaken_keys :
    let s := keyedPanel .active none
    let t := keyedPanel .joining (some 63)
    let lock (k : Lock) : Dest := { Dest.reset with lock := some k }
    let key (x : TalkKey) : State := { s with talk := { s.talk with keys := s.talk.keys.setP panel ((s.talk.keys.getP panel).set 0 x) } }
    let refusing : Store := { s.store with state := .idle }
    let recalling : Store := { refusing with pages := refusing.pages.set 47 ⟨.valid, [⟨63, none⟩], false⟩ }
    (s.entry panel).ident = some ⟨.key, 32, 2, 4⟩ ∧ (s.entry panel).keys.get 0 = .down ∧ (s.entry panel).keys.get 1 = .up
      ∧ ((s.keyMap panel).keys.get 0).fn = .talk (.port 11) ∧ ((s.keyMap panel).keys.get 1).fn = .listen (.group 15)
      ∧ ((s.keyMap panel).keys.get 2).fn = .dest 63 ∧ ((s.keyMap panel).keys.get 3).fn = .source (some 5)
      ∧ ((s.keyMap panel).keys.get 4).fn = .lock ∧ ((s.keyMap panel).keys.get 5).fn = .salvo 47 ∧ ((s.keyMap panel).keys.get 47).fn = .unused
      ∧ (s.entry panel).state = .active ∧ (t.entry panel).state = .joining ∧ (s.entry panel).selected = none ∧ (t.entry panel).selected = some 63
      ∧ (t.dest 63).lock = none ∧ (lock ⟨.panel panel, none⟩).lock = some ⟨.panel panel, none⟩ ∧ (lock ⟨.link, none⟩).lock = some ⟨.link, none⟩
      ∧ returning.map.breaksReturn (some 72) 3 = true ∧ t.map.breaksReturn (some 5) 63 = false ∧ t.xpt.takes = []
      ∧ talkingPanel.xpt.takes = [⟨63, some 5, .panel panel, false⟩]
      ∧ refusing.recallRefusal 47 = some .absent ∧ recalling.recallRefusal 47 = none
      ∧ (key .latched).talk.key panel 0 = .latched ∧ (key .momentary).talk.key panel 0 = .momentary ∧ s.talk.key panel 0 = .idle
      ∧ s.talk.talks.get 0 = none ∧ s.talk.listens.get 0 = none
      ∧ s.talk.listenOf (.panel panel 1) = none ∧ talkingPanel.talk.listenOf (.panel panel 1) = some 0
      ∧ talkingPanel.talk.talkOf (.panel panel 0) = some 0 := by decide +kernel
theorem test_meets_LoopRepliesAreTaken_admission :
    let t := (keyedPanel .active none).talk
    t.admitTalk (some 95) (.port 11) = .ok (0, 95) ∧ t.admitTalk none (.port 11) = .error .noPort
      ∧ t.admitTalk (some 95) (.ifb 0) = .error .target := ⟨rfl, rfl, rfl⟩
theorem test_meets_LoopStatesChange :
    let at_ (x : LoopState) : Loop := { Loop.reset with state := x, rate := .auto }
    (running.loop 0).listens = true ∧ (base.loop 0).listens = false ∧ (at_ (.lineFault 9)).state = .lineFault 9
      ∧ (at_ (.starting true none)).state = .starting true none ∧ (at_ (.rateSearch false .breaking)).state = .rateSearch false .breaking
      ∧ (at_ (.starting false (some 9))).rate = .auto ∧ Loop.reset.rate ≠ .auto ∧ (at_ (.rateSearch true (.waiting 9))).listens = true
      ∧ searchCode (nearestNominal 99) 99 = some 10 ∧ searchCode (nearestNominal 140) 140 = none
      ∧ (at_ (.rateSearch true (.listening 9))).state = .rateSearch true (.listening 9)
      ∧ (at_ (.rateSearch true (.pausing 9))).state = .rateSearch true (.pausing 9)
      ∧ (at_ (.rateSearch true .guard)).state = .rateSearch true .guard
      ∧ (∀ a, ((waiting .active 2 .stateQuery).entry ⟨0, a⟩).missed ≤ 255) ∧ ((waiting .active 2 .stateQuery).loop 0).listens = true := by
  decide +kernel
theorem test_meets_PanelTimersExpire :
    let lock (n : Nat) : Dest := { Dest.reset with lock := some ⟨.panel panel, some n⟩ }
    let s := { base with xpt := { base.xpt with dests := (base.xpt.dests.set 63 (lock 9)).set 0 (lock 8) } }
    let t := { base with talk := { base.talk with keys := base.talk.keys.setP panel ((base.talk.keys.getP panel).set 47 (.held 9)) } }
    ((waiting .lost 10 .stateQuery).entry panel).state = .lost ∧ ((waiting .lost 10 .stateQuery).entry panel).lostAt = some 0
      ∧ (base.entry panel).state ≠ .lost ∧ (s.dest 0).lock = some ⟨.panel panel, some 8⟩
      ∧ (s.dest 63).lock = some ⟨.panel panel, some 9⟩ ∧ (∀ d, (base.dest d).lock = none)
      ∧ t.talk.key panel 47 = .held 9 ∧ base.talk.key panel 47 = .idle := by decide +kernel
theorem test_meets_GpiChangesAreDebounced :
    let taken (g : Gpi) : State := { talking with gpio := { talking.gpio with inputs := talking.gpio.inputs.set 15 g } }
    0 < (base.gpi 15).time ∧ (base.gpi 15).timer = some 480000 ∧ (base.gpi 15).raw = (base.gpi 15).level
      ∧ ((taken ⟨true, false, 0, none, .talk 95 (.port 0)⟩).gpi 15).time = 0
      ∧ ((taken ⟨true, false, 255, some 9, .arm 63⟩).gpi 15).raw ≠ ((taken ⟨true, false, 255, some 9, .arm 63⟩).gpi 15).level
      ∧ talking.talk.talkOf (.gpi 15) = some 0 ∧ talking.talk.invalidTarget 95 (.port 0) = false ∧ talking.talk.freeTalk = some 1
      ∧ talking.talk.invalidTarget 95 (.port 95) = true ∧ (taken ⟨true, false, 0, none, .forceRed 127 .both⟩).gpi 15
          = ⟨true, false, 0, none, .forceRed 127 .both⟩ := by decide +kernel
/-- A boot salvo for each clause: none, an EMPTY, a BAD and a VALID page; the store in each state. -/
theorem test_meets_StoreOperationsEnd :
    let pages := (base.store.pages.set 47 ⟨.valid, [⟨63, none⟩], false⟩).set 46 ⟨.valid, [⟨0, none⟩], true⟩
    let boot (n : Option SalvoId) : Store := { base.store with pages := pages, header := ⟨n, false, false⟩ }
    base.store.state = .starting ∧ base.store.bootPending = true ∧ base.xpt.adopted = true ∧ State.reset.xpt.adopted = false
      ∧ ({ base.store with state := .operating (.boot none) true 255, bootPending := false }).state = .operating (.boot none) true 255
      ∧ ({ base.store with state := .idle }).state ≠ .starting ∧ (boot none).header.boot = none ∧ (boot (some 47)).header.boot = some 47
      ∧ ((boot (some 47)).scanned.pages.get 47).state = .valid ∧ ((boot (some 46)).scanned.pages.get 46).state = .bad
      ∧ ((boot (some 0)).scanned.pages.get 0).state = .empty
      ∧ ({ boot (some 47) with state := .operating (.write 47 []) true 0 }).programming 47 = true
      ∧ ({ boot (some 47) with state := .idle }).programming 47 = false ∧ (boot (some 47)).bootPending = true := by decide +kernel

end Sys2Proof.Tests
end

/-! SUPPORT. The weights of a stage (R74) as two keyer steps on the background, and the walk (R75 to R77) branch by branch: what a share of 0
contributes, and that the cuts do not depend on the shares. -/

namespace Sys2Proof.Machine

/-! ## Keyer steps (R74) -/

/-- The test of a keyer that is off, turned into the test of one that is on, as R74 words it. -/
theorem ite_gain_eq_zero {α : Type} (g : Nat) (off on : α) : (if g = 0 then off else on) = if 0 < g then on else off := by
  rcases Nat.eq_zero_or_pos g with rfl | hg
  · rfl
  · rw [if_neg (Nat.ne_of_gt hg), if_pos hg]

theorem under_eq (g w : Nat) : under g w = if 0 < g then w * (1024 - g) / 1024 else w := ite_gain_eq_zero g _ _

/-- A keyer of gain 0 leaves the weights as they are, so one bound holds for both kinds of keyer. -/
theorem under_mul_le (g w : Nat) : under g w * 1024 ≤ w * (1024 - g) := by
  rw [under_eq]
  split
  next => exact Nat.div_mul_le_self _ _
  next hg => exact Nat.le_of_eq (by rw [Nat.eq_zero_of_not_pos hg, Nat.sub_zero])

theorem sum_under_mul_le (g : Nat) (ws : List Nat) : (ws.map (under g)).sum * 1024 ≤ ws.sum * (1024 - g) := by
  induction ws with
  | nil => simp only [List.map_nil, List.sum_nil, Nat.zero_mul, Nat.le_refl]
  | cons w ws ih =>
    simp only [List.map_cons, List.sum_cons, Nat.add_mul]
    exact Nat.add_le_add (under_mul_le g w) ih

/-- The weight of the branch that a keyer makes: none where it is off. -/
def fillWeights (g : Nat) : List Nat := if g = 0 then [] else [g]

theorem sum_fillWeights (g : Nat) : (fillWeights g).sum = g := by
  unfold fillWeights
  split
  next hg => simp [hg]
  next => simp

/-- One keyer step of R74 on the weights before it. -/
def keyerStep (g : Nat) (ws : List Nat) : List Nat := ws.map (under g) ++ fillWeights g

/-- A keyer step keeps the sum of the weights within the whole. -/
theorem sum_keyerStep_le {g : Nat} {ws : List Nat} (hg : g ≤ 1024) (hws : ws.sum ≤ 1024) : (keyerStep g ws).sum ≤ 1024 := by
  have hkept : (ws.map (under g)).sum ≤ 1024 - g := by
    have hmul := sum_under_mul_le g ws
    have hwhole : ws.sum * (1024 - g) ≤ 1024 * (1024 - g) := Nat.mul_le_mul_right _ hws
    omega
  rw [keyerStep, List.sum_append, sum_fillWeights]
  omega

/-! ## The branches of a stage (R74) -/

/-- The weights of a stage are its background under the steps of key 1 and of key 2. -/
theorem StageRec.branches_weights (r : StageRec) :
    r.branches.map (fun b => b.2.2) = keyerStep r.gain2 (keyerStep r.gain1 [1024 - r.position, r.position]) := by
  by_cases h1 : r.gain1 = 0 <;> by_cases h2 : r.gain2 = 0 <;> simp [StageRec.branches, keyerStep, fillWeights, h1, h2]

theorem StageRec.sum_weights_le {k : StageId} {r : StageRec} (h : r.inRange k) : (r.branches.map fun b => b.2.2).sum ≤ 1024 := by
  obtain ⟨hposition, hgain1, hgain2, -⟩ := h
  have hbackground : [1024 - r.position, r.position].sum ≤ 1024 := by simp; omega
  rw [StageRec.branches_weights]
  exact sum_keyerStep_le hgain2 (sum_keyerStep_le hgain1 hbackground)

/-! ## The walk, branch by branch (R75, R77) -/

/-- What the walk of stage `k` meets behind one of its branches, whose child has share `child`. -/
def Snapshot.follow (x : Snapshot) (fuel : Nat) (path : List StageId) (k : StageId) (branch : Branch) (ref : Ref) (child : Nat) :
    List WalkItem :=
  match ref with
  | .input n => x.resolve n child
  | .black => []
  | .matte => []
  | .stage j =>
    if path.contains j then [.cut ⟨k, branch, j⟩]
    else
      match fuel with
      | 0 => []
      | f + 1 => x.walk f (path ++ [j]) j child

theorem Snapshot.walk_eq (x : Snapshot) (fuel : Nat) (path : List StageId) (k : StageId) (share : Nat) :
    x.walk fuel path k share
      = (x.stages.get k).branches.flatMap fun br => x.follow fuel path k br.1 br.2.1 (share * br.2.2 / 1024) := by
  rw [Snapshot.walk.eq_def]
  refine congrArg (List.flatMap · _) (funext fun ⟨branch, ref, weight⟩ => ?_)
  cases ref with
  | input n => rfl
  | black => rfl
  | matte => rfl
  | stage j => cases fuel <;> rfl

/-- Whatever its child's share, a branch leads to an input reference, to nothing, to a cut, or to the walk of a stage with less fuel. -/
theorem Snapshot.follow_cases (x : Snapshot) (fuel : Nat) (path : List StageId) (k : StageId) (branch : Branch) (ref : Ref) :
    (∃ n, ∀ child, x.follow fuel path k branch ref child = x.resolve n child)
      ∨ (∀ child, x.follow fuel path k branch ref child = [])
      ∨ (∃ c, ∀ child, x.follow fuel path k branch ref child = [.cut c])
      ∨ ∃ f < fuel, ∃ below j, ∀ child, x.follow fuel path k branch ref child = x.walk f below j child := by
  cases ref with
  | input n => exact .inl ⟨n, fun _ => rfl⟩
  | black => exact .inr (.inl fun _ => rfl)
  | matte => exact .inr (.inl fun _ => rfl)
  | stage j =>
    by_cases hpath : path.contains j = true
    · exact .inr (.inr (.inl ⟨⟨k, branch, j⟩, fun _ => if_pos hpath⟩))
    · cases fuel with
      | zero => exact .inr (.inl fun _ => if_neg hpath)
      | succ f => exact .inr (.inr (.inr ⟨f, Nat.lt_succ_self f, path ++ [j], j, fun _ => if_neg hpath⟩))

/-! ## Shares and cuts of what a walk meets (R76, R77) -/

@[simp] theorem shareOf_nil (y : SourceId) : shareOf [] y = 0 := rfl
@[simp] theorem shareOf_cut (c : Cut) (y : SourceId) : shareOf [.cut c] y = 0 := rfl
@[simp] theorem cutsOf_nil : cutsOf [] = [] := rfl

theorem shareOf_flatMap {α : Type} (xs : List α) (f : α → List WalkItem) (y : SourceId) :
    shareOf (xs.flatMap f) y = (xs.map fun a => shareOf (f a) y).sum := by
  induction xs with
  | nil => rfl
  | cons a xs ih =>
    rw [List.flatMap_cons, List.map_cons, List.sum_cons, ← ih]
    simp [shareOf]

theorem cutsOf_flatMap {α : Type} (xs : List α) (f : α → List WalkItem) : cutsOf (xs.flatMap f) = xs.flatMap fun a => cutsOf (f a) :=
  List.filterMap_flatMap

/-- An input reference brings no source more than the share it is resolved with. -/
theorem Snapshot.shareOf_resolve_le (x : Snapshot) (n : InputId) (share : Nat) (y : SourceId) : shareOf (x.resolve n share) y ≤ share := by
  have harrive (s : SourceId) (unsure : Bool) : shareOf [.arrive s share unsure] y ≤ share := by
    simp only [shareOf, List.map_cons, List.map_nil, List.sum_singleton, WalkItem.shareOf]
    split
    next => exact Nat.le_refl share
    next => exact Nat.zero_le share
  unfold Snapshot.resolve
  split
  next => exact Nat.zero_le share
  next => exact harrive _ _
  next =>
    split
    next => exact Nat.zero_le share
    next => exact harrive _ _

/-- An input reference is never a cut. -/
@[simp] theorem Snapshot.cutsOf_resolve (x : Snapshot) (n : InputId) (share : Nat) : cutsOf (x.resolve n share) = [] := by
  unfold Snapshot.resolve
  split
  next => rfl
  next => rfl
  next => split <;> rfl

/-- A walk of share 0 brings no source a share. -/
theorem Snapshot.shareOf_walk_zero (x : Snapshot) (fuel : Nat) (path : List StageId) (k : StageId) (y : SourceId) :
    shareOf (x.walk fuel path k 0) y = 0 := by
  induction fuel using Nat.strongRecOn generalizing path k with
  | ind fuel ih =>
    have hfollow (branch : Branch) (ref : Ref) : shareOf (x.follow fuel path k branch ref 0) y = 0 := by
      obtain ⟨n, hinput⟩ | hnothing | ⟨c, hcut⟩ | ⟨f, hf, below, j, hstage⟩ := x.follow_cases fuel path k branch ref
      · rw [hinput]; exact Nat.le_zero.mp (x.shareOf_resolve_le n 0 y)
      · rw [hnothing, shareOf_nil]
      · rw [hcut, shareOf_cut]
      · rw [hstage]; exact ih f hf below j
    rw [Snapshot.walk_eq, shareOf_flatMap]
    simp only [Nat.zero_mul, Nat.zero_div, hfollow, List.map_const', List.sum_replicate_nat, Nat.mul_zero]

/-- The cuts that a walk meets do not depend on its share: a branch of weight 0 is traversed as any other. -/
theorem Snapshot.cutsOf_walk_share (x : Snapshot) (fuel : Nat) (path : List StageId) (k : StageId) (share share' : Nat) :
    cutsOf (x.walk fuel path k share) = cutsOf (x.walk fuel path k share') := by
  induction fuel using Nat.strongRecOn generalizing path k share share' with
  | ind fuel ih =>
    have hfollow (branch : Branch) (ref : Ref) (child child' : Nat) :
        cutsOf (x.follow fuel path k branch ref child) = cutsOf (x.follow fuel path k branch ref child') := by
      obtain ⟨n, hinput⟩ | hnothing | ⟨c, hcut⟩ | ⟨f, hf, below, j, hstage⟩ := x.follow_cases fuel path k branch ref
      · rw [hinput, hinput, x.cutsOf_resolve, x.cutsOf_resolve]
      · rw [hnothing, hnothing]
      · rw [hcut, hcut]
      · rw [hstage, hstage]; exact ih f hf below j child child'
    rw [Snapshot.walk_eq, Snapshot.walk_eq, cutsOf_flatMap, cutsOf_flatMap]
    exact congrArg (List.flatMap · _) (funext fun br => hfollow br.1 br.2.1 _ _)

/-- Settles O48: the branches by the keyers' tests, the sum by two keyer steps, and the walk of share 0 by induction on its fuel. -/
theorem stageWeightsFollowTheThreeSteps : Obligations.StageWeightsFollowTheThreeSteps := by
  intro k r h
  have hposition : r.position ≤ 1024 := h.1
  refine ⟨?_, Nat.sub_add_cancel hposition, StageRec.sum_weights_le h, fun x fuel path j => ⟨?_, ?_⟩⟩
  · simp only [StageRec.branches, under_eq, ite_gain_eq_zero]
  · exact x.shareOf_walk_zero fuel path j
  · exact x.cutsOf_walk_share fuel path j 0

end Sys2Proof.Machine

/-! SUPPORT. The copies that the GPIO unit holds (R170) and its outputs (R171): how a change of an owner and the report of it keep them in
agreement, carried through every operation of the device. -/

namespace Sys2Proof.Machine

/-! ## The unit's outputs (R171) -/

/-- Every output is active exactly where its mapping's condition holds in the unit's copies. -/
def Gpio.settled (g : Gpio) : Prop := ∀ o, (g.outputs.get o).active = g.holds (g.outputs.get o).mapping

/-- A condition reads the copies alone. -/
theorem Gpio.holds_records (g : Gpio) (inputs : Tbl 16 Gpi) (outputs : Tbl 16 Gpo) (m : GpoMap) :
    ({ g with inputs := inputs, outputs := outputs } : Gpio).holds m = g.holds m := by
  cases m with
  | tally x cs v => cases v <;> rfl
  | _ => rfl

@[simp] theorem Gpio.holds_evaluate (g : Gpio) (r : Report) (m : GpoMap) : (g.evaluate r).holds m = g.holds m :=
  g.holds_records _ _ m

/-- Copies that changed for the watchers of a report alone leave the outputs settled once the report is evaluated. -/
theorem Gpio.settled.evaluate {g g' : Gpio} {r : Report} (h : g.settled) (ho : g'.outputs = g.outputs)
    (hm : ∀ m, r.concerns m = false → g'.holds m = g.holds m) : (g'.evaluate r).settled := by
  intro o
  rw [Gpio.holds_evaluate]
  simp only [Gpio.evaluate, Tbl.get_map', ho]
  split
  next => rfl
  next hc => rw [h o, hm _ (Bool.eq_false_iff.mpr hc)]

theorem Gpio.settled.tellFaulted {g : Gpio} (h : g.settled) (d : DestId) (on : Bool) : (g.tellFaulted d on).settled := by
  refine h.evaluate rfl fun m hm => ?_
  cases m with
  | fault => cases hm
  | tally x cs v => cases v <;> rfl
  | _ => rfl

theorem Gpio.settled.tellAbsent {g : Gpio} (h : g.settled) (c : CardId) (on : Bool) : (g.tellAbsent c on).settled := by
  refine h.evaluate rfl fun m hm => ?_
  cases m with
  | fault => cases hm
  | tally x cs v => cases v <;> rfl
  | _ => rfl

theorem Gpio.settled.tellFrame {g : Gpio} (h : g.settled) (on : Bool) : (g.tellFrame on).settled := by
  refine h.evaluate rfl fun m hm => ?_
  cases m with
  | freeRun => cases hm
  | tally x cs v => cases v <;> rfl
  | _ => rfl

theorem Gpio.settled.tellTalking {g : Gpio} (h : g.settled) (ports : Tbl 96 Bool) : (g.tellTalking ports).settled := by
  refine h.evaluate rfl fun m hm => ?_
  cases m with
  | talking p => cases hm
  | tally x cs v => cases v <;> rfl
  | _ => rfl

/-- A delivery of one production leaves the outputs that watch the other alone as they are. -/
theorem Gpio.settled.deliver {g : Gpio} (h : g.settled) (p : Prod2) (colours combined : Tbl 128 Colour) :
    (g.deliver p colours combined).settled := by
  refine h.evaluate rfl fun m hm => ?_
  cases m with
  | tally x cs v =>
    cases v with
    | a => cases p with | a => cases hm | b => rfl
    | b => cases p with | a => rfl | b => cases hm
    | both => cases hm
  | _ => rfl

/-- A new mapping is evaluated at once (R172). -/
theorem Gpio.settled.setOutput {g : Gpio} (h : g.settled) (o : GpoId) (m : GpoMap) :
    ({ g with outputs := g.outputs.set o ⟨m, g.holds m⟩ } : Gpio).settled := by
  have hholds := g.holds_records g.inputs (g.outputs.set o ⟨m, g.holds m⟩)
  intro i
  rw [hholds]
  simp only [Tbl.get_set']
  split
  next => rfl
  next => exact h i

/-! ## What an operation keeps of the agreement -/

/-- The copy of one destination's condition agrees with its record. -/
def State.faultCopied (s : State) (d : DestId) : Prop := s.gpio.faulted.get d = true ↔ (s.dest d).state = .faulted
/-- The copy of one card's condition agrees with its record. -/
def State.absentCopied (s : State) (c : CardId) : Prop := s.gpio.absent.get c = true ↔ (s.card c).presence = .absent
/-- The copy of the talking ports agrees with the talk engine. -/
def State.talkingCopied (s : State) : Prop := ∀ n, s.gpio.talking.get n = s.talk.talking n

/-- From `s` to `t` no copy that agrees with its owner comes to disagree, and the published colours, the frame watcher and their copies do
not change. Every operation keeps this but a publication, the watcher's own changes of state, and a hard reset. -/
structure CopiesKept (s t : State) : Prop where
  colours : t.gpio.colours = s.gpio.colours
  combined : t.gpio.combined = s.gpio.combined
  published : ∀ p, (t.engines.get p).published = (s.engines.get p).published
  watcher : t.xpt.watcher = s.xpt.watcher
  freeRun : t.gpio.freeRun = s.gpio.freeRun
  talking : s.talkingCopied → t.talkingCopied
  faulted : ∀ d, s.faultCopied d → t.faultCopied d
  absent : ∀ c, s.absentCopied c → t.absentCopied c
  outputs : s.gpio.settled → t.gpio.settled

/-- `t` and `u` hold the same of everything that the GPIO unit copies or drives. -/
structure Alike (t u : State) : Prop where
  published : ∀ p, (u.engines.get p).published = (t.engines.get p).published
  watcher : u.xpt.watcher = t.xpt.watcher
  dests : ∀ d, (u.dest d).state = .faulted ↔ (t.dest d).state = .faulted
  cards : ∀ c, (u.card c).presence = (t.card c).presence
  talking : ∀ n, u.talk.talking n = t.talk.talking n
  gpio : { u.gpio with inputs := t.gpio.inputs } = t.gpio

protected theorem Alike.refl (t : State) : Alike t t := ⟨fun _ => rfl, rfl, fun _ => .rfl, fun _ => rfl, fun _ => rfl, rfl⟩

namespace CopiesKept

variable {s t u v : State}

protected theorem refl (s : State) : CopiesKept s s :=
  ⟨rfl, rfl, fun _ => rfl, rfl, rfl, id, fun _ => id, fun _ => id, id⟩

theorem alike (h : CopiesKept s t) (k : Alike t u) : CopiesKept s u := by
  obtain ⟨published, watcher, dests, cards, talking, gpio⟩ := k
  obtain ⟨inputs, hg⟩ : ∃ inputs, u.gpio = { t.gpio with inputs := inputs } := ⟨u.gpio.inputs, by rw [← gpio]⟩
  have hholds (m : GpoMap) : u.gpio.holds m = t.gpio.holds m := by
    rw [hg]
    exact t.gpio.holds_records inputs t.gpio.outputs m
  constructor
  case colours => rw [hg]; exact h.colours
  case combined => rw [hg]; exact h.combined
  case published => exact fun p => (published p).trans (h.published p)
  case watcher => exact watcher.trans h.watcher
  case freeRun => rw [hg]; exact h.freeRun
  case talking =>
    intro hs n
    rw [talking, hg]
    exact h.talking hs n
  case faulted =>
    intro d hd
    unfold State.faultCopied
    rw [dests, hg]
    exact h.faulted d hd
  case absent =>
    intro c hc
    unfold State.absentCopied
    rw [cards, hg]
    exact h.absent c hc
  case outputs =>
    intro hs o
    rw [hholds, hg]
    exact h.outputs hs o

/-- What reaches none of the owners nor the GPIO unit. -/
theorem keeps (h : CopiesKept s t) (k : ∀ p ∈ [Part.xpt, .fabric, .engines, .talk, .gpio], u.part p = t.part p) : CopiesKept s u := by
  have hxpt : u.xpt = t.xpt := k .xpt (by simp)
  have hfabric : u.fabric = t.fabric := k .fabric (by simp)
  have hengines : u.engines = t.engines := k .engines (by simp)
  have htalk : u.talk = t.talk := k .talk (by simp)
  have hgpio : u.gpio = t.gpio := k .gpio (by simp)
  refine h.alike ⟨fun p => ?_, ?_, fun d => ?_, fun c => ?_, fun n => ?_, ?_⟩
  · rw [hengines]
  · rw [hxpt]
  · rw [State.dest, State.dest, hxpt]
  · rw [State.card, State.card, hfabric]
  · rw [htalk]
  · rw [hgpio]

/-- A list acted on element by element, each action keeping the agreement. -/
theorem forEach {α : Type} {f : State → α → State} (h : CopiesKept s t) (hf : ∀ {u x}, CopiesKept s u → CopiesKept s (f u x))
    (xs : List α) : CopiesKept s (forEach xs f t) := List.foldlRecOn xs f h fun _ hu _ _ => hf hu

end CopiesKept

/-- The agreement itself is kept. -/
theorem State.gpioAgrees.kept {s t : State} (h : s.gpioAgrees) (k : CopiesKept s t) : t.gpioAgrees where
  colours p x := by rw [k.colours, k.published, h.colours]
  combined x := by
    have ha : t.engines.a.published = s.engines.a.published := k.published .a
    have hb : t.engines.b.published = s.engines.b.published := k.published .b
    rw [k.combined, h.combined, State.combinedColour, State.combinedColour, ha, hb]
  talking := k.talking h.talking
  faulted d := k.faulted d (h.faulted d)
  absent c := k.absent c (h.absent c)
  freeRun := by rw [k.freeRun, k.watcher]; exact h.freeRun
  outputs := k.outputs h.outputs

/-! ## The reports of the owners (R170) -/

namespace CopiesKept

variable {s t u v : State}

/-- A destination's record is replaced and, after what else keeps the agreement, the unit is told what it now is. -/
theorem tellFaulted {d : DestId} {x : Dest} {on : Bool} (h : CopiesKept s t) (k : CopiesKept (t.setDestRec d x) v)
    (hon : on = true ↔ (v.dest d).state = .faulted) : CopiesKept s (v.onGpio (·.tellFaulted d on)) where
  colours := k.colours.trans h.colours
  combined := k.combined.trans h.combined
  published p := (k.published p).trans (h.published p)
  watcher := k.watcher.trans h.watcher
  freeRun := k.freeRun.trans h.freeRun
  talking hs := k.talking (h.talking hs)
  faulted e he := by
    show (v.gpio.faulted.set d on).get e = true ↔ (v.dest e).state = .faulted
    rw [Tbl.get_set']
    split
    next hde => rw [← hde]; exact hon
    next hde =>
      refine k.faulted e ?_
      have hsame : (t.setDestRec d x).dest e = t.dest e := by simp [State.dest, Tbl.get_set', hde]
      unfold State.faultCopied
      rw [hsame]
      exact h.faulted e he
  absent c hc := k.absent c (h.absent c hc)
  outputs hs := (k.outputs (h.outputs hs)).tellFaulted d on

/-- A card's record is replaced and, after what else keeps the agreement, the unit is told what it now is. -/
theorem tellAbsent {c : CardId} {x : Card} {on : Bool} (h : CopiesKept s t) (k : CopiesKept (t.setCard c x) v)
    (hon : on = true ↔ (v.card c).presence = .absent) : CopiesKept s (v.onGpio (·.tellAbsent c on)) where
  colours := k.colours.trans h.colours
  combined := k.combined.trans h.combined
  published p := (k.published p).trans (h.published p)
  watcher := k.watcher.trans h.watcher
  freeRun := k.freeRun.trans h.freeRun
  talking hs := k.talking (h.talking hs)
  faulted d hd := k.faulted d (h.faulted d hd)
  absent e he := by
    show (v.gpio.absent.set c on).get e = true ↔ (v.card e).presence = .absent
    rw [Tbl.get_set']
    split
    next hce => rw [← hce]; exact hon
    next hce =>
      refine k.absent e ?_
      have hsame : (t.setCard c x).card e = t.card e := by simp [State.card, Tbl.get_set', hce]
      unfold State.absentCopied
      rw [hsame]
      exact h.absent e he
  outputs hs := (k.outputs (h.outputs hs)).tellAbsent c on

end CopiesKept

/-- The watcher is replaced and, after what else keeps the agreement, the unit is told the frame condition (R22, R23). -/
theorem State.gpioAgrees.tellFrame {s v : State} {w : Watcher} {on : Bool} (h : s.gpioAgrees) (k : CopiesKept (s.setWatcher w) v)
    (hon : on = true ↔ ∃ t, w.state = .freeRun t) : (v.onGpio (·.tellFrame on)).gpioAgrees where
  colours p x := by
    show (v.gpio.colours.get p).get x = _
    rw [k.colours]
    exact (h.colours p x).trans (congrArg (fun r => (r.get x).colour) (k.published p).symm)
  combined x := by
    have ha : v.engines.a.published = s.engines.a.published := k.published .a
    have hb : v.engines.b.published = s.engines.b.published := k.published .b
    show v.gpio.combined.get x = v.combinedColour x
    rw [k.combined, State.combinedColour, ha, hb]
    exact h.combined x
  talking := k.talking h.talking
  faulted d := k.faulted d (h.faulted d)
  absent c := k.absent c (h.absent c)
  freeRun := by
    show on = true ↔ ∃ t, v.xpt.watcher.state = .freeRun t
    rw [k.watcher]
    exact hon
  outputs := (k.outputs h.outputs).tellFrame on

/-- Records are published and, after what else keeps the agreement, delivered to the unit (R87). -/
theorem State.gpioAgrees.deliver {s v : State} {p : Prod2} {e : Engine} (h : s.gpioAgrees) (k : CopiesKept (s.setEngine p e) v) :
    (v.onGpio (·.deliver p ((v.engines.get p).published.map fun r => r.colour) (.build 128 v.combinedColour))).gpioAgrees where
  colours q x := by
    show ((v.gpio.colours.set p _).get q).get x = ((v.engines.get q).published.get x).colour
    rw [Pair.get_set]
    split
    next hpq => rw [Tbl.get_map', hpq]
    next hpq =>
      have hq : ((s.setEngine p e).engines.get q).published = (s.engines.get q).published := by
        rw [State.setEngine_engines, Pair.get_set, if_neg hpq]
      rw [k.colours, k.published, hq]
      exact h.colours q x
  combined x := Tbl.get_build' _ x
  talking := k.talking h.talking
  faulted d := k.faulted d (h.faulted d)
  absent c := k.absent c (h.absent c)
  freeRun := by
    show v.gpio.freeRun = true ↔ ∃ t, v.xpt.watcher.state = .freeRun t
    rw [k.freeRun, k.watcher]
    exact h.freeRun
  outputs := (k.outputs h.outputs).deliver p _ _


/-! ## Operations that move no condition -/

@[simp] theorem Crosspoint.enter_dests (x : Crosspoint) (e : TakeEntry) : (x.enter e).dests = x.dests := by
  unfold Crosspoint.enter
  split <;> rfl
@[simp] theorem Crosspoint.enter_watcher (x : Crosspoint) (e : TakeEntry) : (x.enter e).watcher = x.watcher := by
  unfold Crosspoint.enter
  split <;> rfl

/-- The transmitter's choice moves records and marks, and no card's presence. -/
@[simp] theorem Fabric.choose_presence (f : Fabric) (c : CardId) : (f.choose.cards.get c).presence = (f.cards.get c).presence := by
  unfold Fabric.choose
  split
  next => rfl
  next =>
    split
    next =>
      simp only [Fabric.begin, Tbl.modify, Tbl.get_set']
      split
      next h => rw [h]
      next => rfl
    next =>
      split
      next => rfl
      next =>
        split
        next => rfl
        next => split <;> rfl

/-- Queued queries leave every card record. -/
theorem Fabric.queueQueries_presence (ds : List DestId) (f : Fabric) (c : CardId) :
    ((ds.foldl Fabric.queueQuery f).cards.get c).presence = (f.cards.get c).presence := by
  have hcards (f : Fabric) (d : DestId) : (f.queueQuery d).cards = f.cards := by
    unfold Fabric.queueQuery
    split <;> rfl
  have hfold : (ds.foldl Fabric.queueQuery f).cards = f.cards :=
    List.foldlRecOn (motive := fun g => g.cards = f.cards) ds _ rfl fun g hg d _ => (hcards g d).trans hg
  rw [hfold]

theorem State.setEngine_published {s : State} {p : Prod2} {e : Engine} (h : e.published = (s.engines.get p).published) (q : Prod2) :
    ((s.setEngine p e).engines.get q).published = (s.engines.get q).published := by
  rw [State.setEngine_engines, Pair.get_set]
  split
  next hpq => rw [← hpq, h]
  next => rfl

@[simp] theorem State.setDestRec_dest_self (s : State) (d : DestId) (x : Dest) : (s.setDestRec d x).dest d = x := by simp [State.dest]

theorem State.setDestRec_dest_ne {s : State} {d e : DestId} (x : Dest) (h : d ≠ e) : (s.setDestRec d x).dest e = s.dest e := by
  simp [State.dest, Tbl.get_set', h]

@[simp] theorem State.setCard_card_self (s : State) (c : CardId) (x : Card) : (s.setCard c x).card c = x := by simp [State.card]

theorem State.setCard_card_ne {s : State} {c e : CardId} (x : Card) (h : c ≠ e) : (s.setCard c x).card e = s.card e := by
  simp [State.card, Tbl.get_set', h]

@[simp] theorem State.triggerRouting_dest (s : State) (d e : DestId) : (s.triggerRouting d).dest e = s.dest e := by
  rw [State.triggerRouting, State.triggers_eq]
  rfl

theorem State.setDestRec_faulted {s : State} {d : DestId} {x : Dest} (h : x.state = .faulted ↔ (s.dest d).state = .faulted) (e : DestId) :
    ((s.setDestRec d x).dest e).state = .faulted ↔ (s.dest e).state = .faulted := by
  by_cases hde : d = e
  · rw [← hde, State.setDestRec_dest_self, h]
  · rw [State.setDestRec_dest_ne x hde]

theorem State.setCard_presence {s : State} {c : CardId} {x : Card} (h : x.presence = (s.card c).presence) (e : CardId) :
    ((s.setCard c x).card e).presence = (s.card e).presence := by
  by_cases hce : c = e
  · rw [← hce, State.setCard_card_self, h]
  · rw [State.setCard_card_ne x hce]

namespace CopiesKept

variable {s t : State}

theorem onXpt {f : Crosspoint → Crosspoint} (h : CopiesKept s t)
    (hd : ∀ d, ((f t.xpt).dests.get d).state = (t.xpt.dests.get d).state) (hw : (f t.xpt).watcher = t.xpt.watcher) :
    CopiesKept s (t.onXpt f) :=
  h.alike { Alike.refl t with watcher := hw, dests := fun d => by rw [State.dest, State.dest, State.onXpt_xpt, hd] }

theorem onFabric {f : Fabric → Fabric} (h : CopiesKept s t)
    (hf : ∀ c, ((f t.fabric).cards.get c).presence = (t.fabric.cards.get c).presence) :
    CopiesKept s (t.onFabric f) := h.alike { Alike.refl t with cards := hf }

theorem setEngine {p : Prod2} {e : Engine} (h : CopiesKept s t) (he : e.published = (t.engines.get p).published) :
    CopiesKept s (t.setEngine p e) := h.alike { Alike.refl t with published := State.setEngine_published he }

theorem setDestRec {d : DestId} {x : Dest} (h : CopiesKept s t) (hx : x.state = .faulted ↔ (t.dest d).state = .faulted) :
    CopiesKept s (t.setDestRec d x) := h.alike { Alike.refl t with dests := State.setDestRec_faulted hx }

theorem setCard {c : CardId} {x : Card} (h : CopiesKept s t) (hx : x.presence = (t.card c).presence) :
    CopiesKept s (t.setCard c x) := h.alike { Alike.refl t with cards := State.setCard_presence hx }

theorem onMap {f : SourceMap → SourceMap} (h : CopiesKept s t) : CopiesKept s (t.onMap f) := h.keeps (by simp)
theorem onStore {f : Store → Store} (h : CopiesKept s t) : CopiesKept s (t.onStore f) := h.keeps (by simp)
theorem onLink {f : Link → Link} (h : CopiesKept s t) : CopiesKept s (t.onLink f) := h.keeps (by simp)
theorem reach (h : CopiesKept s t) (n : Nat) : CopiesKept s (t.reach n) := h.keeps (by simp)
theorem raise (h : CopiesKept s t) (n : Notice) : CopiesKept s (t.raise n) := h.keeps (by simp)
theorem raiseIf (h : CopiesKept s t) (c : Bool) (n : Notice) : CopiesKept s (t.raiseIf c n) := h.keeps (by simp)

/-! ## Triggers (R69, R70, R72) -/

theorem startRun (h : CopiesKept s t) (p : Prod2) : CopiesKept s (t.startRun p) := h.setEngine rfl

theorem trigger (h : CopiesKept s t) (p : Prod2) : CopiesKept s (t.trigger p) := by
  unfold State.trigger
  dsimp only
  split
  next => exact h
  next =>
    split
    next => exact h.setEngine rfl
    next => exact h.startRun p

theorem triggerIf (h : CopiesKept s t) (c : Bool) (p : Prod2) : CopiesKept s (t.triggerIf c p) := by
  unfold State.triggerIf
  split
  next => exact h.trigger p
  next => exact h

theorem triggers (h : CopiesKept s t) (f : Prod2 → Bool) : CopiesKept s (t.triggers f) := (h.triggerIf _ .a).triggerIf _ .b
theorem triggerRouting (h : CopiesKept s t) (d : DestId) : CopiesKept s (t.triggerRouting d) := h.triggers _
theorem adoptTally (h : CopiesKept s t) (p : Prod2) : CopiesKept s (t.adoptTally p) :=
  (h.setEngine (by rfl)).startRun p

/-! ## Takes and locks (R17 to R21, R33 to R38) -/

theorem offerTake (h : CopiesKept s t) (d : DestId) (f : Feed) (o : TakeOrigin) (forced : Bool) :
    CopiesKept s (t.offerTake d f o forced).1 := by
  unfold State.offerTake
  split
  next => exact h
  next =>
    have hentered : CopiesKept s (t.onXpt (·.enter ⟨d, f, o, forced⟩)) := h.onXpt (fun _ => by simp) (by simp)
    exact hentered

theorem offerGroup (h : CopiesKept s t) (n : SalvoId) (who : Identity) (es : List SalvoEntry) :
    CopiesKept s (t.offerGroup n who es).1 := by
  unfold State.offerGroup
  refine List.foldlRecOn (motive := fun acc : State × List RefusedEntry => CopiesKept s acc.1) es _ h fun acc hacc e _ => ?_
  have hnext := hacc.offerTake e.dest e.source (.salvo n who) false
  split
  next heq => rw [heq] at hnext; exact hnext
  next heq => rw [heq] at hnext; exact hnext

theorem raiseRefused (h : CopiesKept s t) (n : SalvoId) (who : Identity) (rs : List RefusedEntry) :
    CopiesKept s (t.raiseRefused n who rs) := h.raiseIf _ _

theorem setLock (h : CopiesKept s t) (d : DestId) (k : Option Lock) : CopiesKept s (t.setLock d k) := h.setDestRec (by rfl)
theorem acquireLock (h : CopiesKept s t) (d : DestId) (who : Identity) : CopiesKept s (t.acquireLock d who) := (h.setLock d _).raise _
theorem removeLock (h : CopiesKept s t) (d : DestId) (who : Identity) (c : LockChange) : CopiesKept s (t.removeLock d who c) :=
  (h.setLock d _).raise _
theorem locksLost (h : CopiesKept s t) (p : PanelId) : CopiesKept s (t.locksLost p) :=
  (h.forEach (fun h => h.setLock _ _) _).raiseIf _ _
theorem locksActive (h : CopiesKept s t) (p : PanelId) : CopiesKept s (t.locksActive p) :=
  (h.forEach (fun h => h.setLock _ _) _).raiseIf _ _
theorem locksExpire (h : CopiesKept s t) (who : Identity) (n : Nat) : CopiesKept s (t.locksExpire who n) :=
  (h.forEach (fun h => h.setLock _ _) _).raiseIf _ _

theorem pressSource (h : CopiesKept s t) (p : PanelId) (k : KeyId) (f : Feed) : CopiesKept s (t.pressSource p k f) := by
  unfold State.pressSource
  split
  next => exact h.keeps (by simp)
  next d hd =>
    have hnext := h.offerTake d f (.panel p) false
    split
    next heq => rw [heq] at hnext; exact hnext
    next heq => rw [heq] at hnext; exact hnext.keeps (by simp)

theorem pressLock (h : CopiesKept s t) (p : PanelId) : CopiesKept s (t.pressLock p) := by
  unfold State.pressLock
  split
  next => exact h
  next =>
    split
    next => exact h.acquireLock _ _
    next =>
      split
      next => exact h.removeLock _ _ _
      next => exact h

theorem restartCrosspoint (h : CopiesKept s t) : CopiesKept s t.restartCrosspoint :=
  (((h.onXpt (fun _ => rfl) rfl).raiseIf _ _).onXpt (fun _ => by rw [Tbl.get_map']) rfl).raiseIf _ _

/-! ## The salvo store (R176, R177, R183, R184) -/

theorem stageBoot (h : CopiesKept s t) : CopiesKept s t.stageBoot := by
  unfold State.stageBoot
  split
  case isFalse => exact h
  case isTrue =>
    split
    next => exact h.keeps (by simp)
    next n _ =>
      split
      next => exact h
      next =>
        dsimp only
        split
        next => exact h.onStore.raise _
        next => exact h.onStore.raise _
        next => exact ((h.onStore.offerGroup _ _ _).raiseRefused _ _ _).raise _

theorem pressSalvo (h : CopiesKept s t) (p : PanelId) (k : KeyId) (n : SalvoId) : CopiesKept s (t.pressSalvo p k n) := by
  unfold State.pressSalvo
  split
  next => exact h.keeps (by simp)
  next => exact (h.offerGroup _ _ _).raiseRefused _ _ _

theorem scanEnds (h : CopiesKept s t) : CopiesKept s t.scanEnds := (h.onStore.raiseIf _ _).stageBoot

theorem programmed (h : CopiesKept s t) (agrees : Bool) : CopiesKept s (t.programmed agrees) := by
  unfold State.programmed
  split
  next =>
    split
    next => exact h.onStore
    next => exact (h.onStore.raise _).stageBoot
  next => exact h

/-! ## Destinations that enter or leave FAULTED (R29 to R32) -/

/-- A verify outcome makes a destination FAULTED where its second send has failed, and tells the unit; it takes none out of FAULTED. -/
theorem applyOutcome (h : CopiesKept s t) (d : DestId) (bit : Bool) (o : Verify) : CopiesKept s (t.applyOutcome d bit o) := by
  unfold State.applyOutcome
  dsimp only
  split
  next => exact h
  next =>
    split
    next hstate => exact h.setDestRec (by simp [hstate])
    next hstate _ => exact (h.setDestRec (by simp [hstate, Dest.toRetry])).triggerRouting d
    next hstate => exact (h.setDestRec (by simp [hstate])).triggerRouting d
    next => exact (h.tellFaulted ((CopiesKept.refl _).triggerRouting d) (by simp)).raise _
    next => exact h

/-- A readback takes a FAULTED destination out of FAULTED, and tells the unit. -/
theorem applyReadback (h : CopiesKept s t) (d : DestId) (actual : Feed) : CopiesKept s (t.applyReadback d actual) := by
  unfold State.applyReadback
  dsimp only
  split
  next hstate =>
    split
    next => exact h
    next => exact (h.setDestRec (by simp [hstate, Dest.toRetry])).triggerRouting d
  next =>
    split
    next => exact h.tellFaulted ((CopiesKept.refl _).triggerRouting d) (by simp)
    next => exact h.tellFaulted ((CopiesKept.refl _).triggerRouting d) (by simp [Dest.toRetry])
  next hstate =>
    split
    next => exact (h.setDestRec (by simp [hstate])).triggerRouting d
    next => exact h
  next => exact h
  next => exact h

theorem adoptDest (h : CopiesKept s t) (d : DestId) (actual : Feed) : CopiesKept s (t.adoptDest d actual) :=
  h.tellFaulted (.refl _) (by simp)

theorem adoptAbsent (h : CopiesKept s t) (d : DestId) : CopiesKept s (t.adoptAbsent d) := h.tellFaulted (.refl _) (by simp)

/-! ## The fabric line (R39 to R53) -/

theorem setFabricRx (h : CopiesKept s t) (rx : FabricRx) : CopiesKept s (t.setFabricRx rx) := h.onFabric fun _ => rfl

theorem handXset (h : CopiesKept s t) (d : DestId) (f : Feed) (seq : Bool) : CopiesKept s (t.handXset d f seq) := by
  unfold State.handXset
  split
  next => exact h.applyOutcome d seq .timeout
  next => exact h.onFabric fun _ => rfl

theorem handAset (h : CopiesKept s t) (p : PortId) : CopiesKept s (t.handAset p) := by
  unfold State.handAset
  split
  next => exact h.onFabric fun _ => rfl
  next => exact h

theorem handImages (h : CopiesKept s t) (c : CardId) : CopiesKept s (t.handImages c) := h.forEach (fun h => h.handAset _) _

theorem checkAdoption (h : CopiesKept s t) : CopiesKept s t.checkAdoption := by
  unfold State.checkAdoption
  split
  next => exact (((h.onXpt (fun _ => rfl) rfl).stageBoot).adoptTally .a).adoptTally .b
  next => exact h

theorem reportRemoved (h : CopiesKept s t) (r : VideoRec) : CopiesKept s (t.reportRemoved r) := by
  cases r with
  | xset d f seq => exact h.applyOutcome d seq .timeout
  | xquery d => exact h

theorem abandonAdoption (h : CopiesKept s t) (c : CardId) : CopiesKept s (t.abandonAdoption c) :=
  (h.setCard (by rfl)).forEach (fun h => h.adoptAbsent _) _

/-- A card becomes ABSENT; the outcomes of its removed records come before the unit is told, and leave its record as it is. -/
theorem becomeAbsent (h : CopiesKept s t) (c : CardId) (change : CardChange) : CopiesKept s (t.becomeAbsent c change) := by
  unfold State.becomeAbsent
  extract_lets removed card absent reported
  have hreported : CopiesKept absent reported := ((CopiesKept.refl _).onFabric fun _ => rfl).forEach (fun h => h.reportRemoved _) _
  have hfabric : reported.fabric = (absent.onFabric (·.dropCard c)).fabric :=
    forEach_part .fabric State.reportRemoved (fun _ _ => by simp) removed _
  have hcard : (reported.card c).presence = .absent := by
    rw [State.card, hfabric]
    exact congrArg Card.presence (State.setCard_card_self t c _)
  exact (((h.tellAbsent hreported (by simp [hcard])).raise _).setCard (by rfl)).abandonAdoption c

theorem complain (h : CopiesKept s t) (c : CardId) (audio : Bool) : CopiesKept s (t.complain c audio) := by
  unfold State.complain
  split
  next => exact h
  next => exact (h.setCard (by rfl)).raise _

theorem becomePresent (h : CopiesKept s t) (c : CardId) : CopiesKept s (t.becomePresent c) :=
  (h.tellAbsent (.refl _) (by simp)).raise _

theorem welcome (h : CopiesKept s t) (c : CardId) (adoption : Bool) : CopiesKept s (t.welcome c adoption) := by
  unfold State.welcome
  split
  next =>
    have hqueued : CopiesKept s (t.onFabric fun f => (destsOf c).foldl Fabric.queueQuery f) :=
      h.onFabric (Fabric.queueQueries_presence _ _)
    dsimp only
    split
    next => exact hqueued.setCard (by rfl)
    next => exact hqueued
  next => exact h.handImages c

theorem failProbe (h : CopiesKept s t) (c : CardId) : CopiesKept s (t.failProbe c) := by
  unfold State.failProbe
  dsimp only
  split
  next => exact (h.becomeAbsent c _).forEach (fun h => h.adoptAbsent _) _
  next => exact h.becomeAbsent c _

theorem probeAnswered (h : CopiesKept s t) (c : CardId) (audio : Bool) : CopiesKept s (t.probeAnswered c audio) := by
  unfold State.probeAnswered
  dsimp only
  split
  next => exact (h.becomePresent c).welcome c _
  next =>
    split
    next => exact (h.failProbe c).complain c audio
    next => exact (h.setCard (by rfl)).complain c audio

theorem closeExchange (h : CopiesKept s t) (c : CardId) : CopiesKept s (t.closeExchange c) := h.onFabric fun _ => rfl
theorem closeAnswered (h : CopiesKept s t) (c : CardId) : CopiesKept s (t.closeAnswered c) := (h.closeExchange c).setCard (by rfl)

theorem recordSent (h : CopiesKept s t) : CopiesKept s t.recordSent := by
  unfold State.recordSent
  split
  next => exact h
  next => exact h.onFabric fun _ => rfl

theorem takeXecho (h : CopiesKept s t) (d : DestId) (actual : Feed) (seq : Bool) : CopiesKept s (t.takeXecho d actual seq) := by
  have hclosed := h.closeAnswered (videoCard d)
  unfold State.takeXecho
  dsimp only
  split
  next => exact h
  next =>
    split
    next =>
      split
      next =>
        split
        next => exact hclosed
        next => exact hclosed.applyOutcome d _ _
      next => exact h
    next =>
      split
      next =>
        split
        next => exact ((hclosed.setCard (by rfl)).adoptDest d actual).checkAdoption
        next => exact hclosed.applyReadback d actual
      next => exact h
    next => exact h

theorem takeAack (h : CopiesKept s t) (p : PortId) : CopiesKept s (t.takeAack p) := by
  unfold State.takeAack
  split
  next =>
    split
    next => exact h.closeAnswered _
    next => exact h
  next => exact h

theorem takePresent (h : CopiesKept s t) (c : CardId) (audio : Bool) : CopiesKept s (t.takePresent c audio) := by
  unfold State.takePresent
  split
  next => exact ((h.closeAnswered c).probeAnswered c audio).checkAdoption
  next => exact h

theorem takeRecord (h : CopiesKept s t) (r : CardRecord) : CopiesKept s (t.takeRecord r) := by
  cases r with
  | xecho d a q =>
    unfold State.takeRecord
    dsimp only
    split
    next => exact h.takeXecho _ _ _
    next => exact h
  | aack p =>
    unfold State.takeRecord
    dsimp only
    split
    next => exact h.takeAack _
    next => exact h
  | present c k =>
    unfold State.takeRecord
    dsimp only
    split
    next =>
      split
      next => exact h.takePresent _ _
      next => exact h
    next => exact h

theorem wholeRecord (h : CopiesKept s t) (r : CardRecord) : CopiesKept s (t.wholeRecord r) := (h.setFabricRx _).takeRecord r

theorem countTimeout {first : State → State} (h : CopiesKept s t) (c : CardId) (r : LostRecord)
    (hf : ∀ u, CopiesKept s u → CopiesKept s (first u)) : CopiesKept s (t.countTimeout c r first) := by
  unfold State.countTimeout
  split
  next => exact hf _ (h.setCard (by rfl))
  next => exact h.becomeAbsent c _

theorem exchangeTimedOut (h : CopiesKept s t) (c : CardId) (x : Exchange) : CopiesKept s (t.exchangeTimedOut c x) := by
  have hclosed := h.closeExchange c
  unfold State.exchangeTimedOut
  dsimp only
  split
  next =>
    refine countTimeout ?_ c _ fun _ hu => hu
    split
    next => exact hclosed
    next => exact hclosed.applyOutcome _ _ _
  next d _ =>
    refine hclosed.countTimeout c _ fun u hu => ?_
    split
    next => exact hu.onFabric (Fabric.queueQueries_presence [d] u.fabric)
    next => exact hu
  next => exact hclosed.countTimeout c _ fun _ hu => hu.setCard (by rfl)
  next =>
    split
    next => exact hclosed.failProbe c
    next => exact hclosed.setCard (by rfl)

theorem restartFabric (h : CopiesKept s t) : CopiesKept s t.restartFabric := h.forEach (fun h => h.handImages _) _

end CopiesKept

/-! ## Frame events (R24 to R27) -/

theorem State.applyOutcome_dest_ne {s : State} {d e : DestId} (bit : Bool) (o : Verify) (h : d ≠ e) :
    (s.applyOutcome d bit o).dest e = s.dest e := by
  have hrec (x : Dest) : (s.setDestRec d x).dest e = s.dest e := State.setDestRec_dest_ne x h
  unfold State.applyOutcome
  dsimp only
  split
  next => rfl
  next =>
    split
    next => exact hrec _
    next => exact (State.triggerRouting_dest _ d e).trans (hrec _)
    next => exact (State.triggerRouting_dest _ d e).trans (hrec _)
    next => exact (State.triggerRouting_dest _ d e).trans (hrec _)
    next => rfl

theorem State.retry_dest_ne {s : State} {d e : DestId} (h : d ≠ e) : (s.retry d).dest e = s.dest e := by
  unfold State.retry State.handXset
  dsimp only
  split
  next => exact (State.applyOutcome_dest_ne _ _ h).trans (State.setDestRec_dest_ne _ h)
  next => exact State.setDestRec_dest_ne _ h

namespace CopiesKept

variable {s t : State}

/-- A dispatch takes its destination out of FAULTED where it was there, and tells the unit. -/
theorem dispatch (h : CopiesKept s t) (e : TakeEntry) : CopiesKept s (t.dispatch e) := by
  unfold State.dispatch
  dsimp only
  split
  next => exact (h.tellFaulted (.refl _) (by simp [Dest.dispatch])).handXset _ _ _
  next hstate => exact (h.setDestRec (by simp [Dest.dispatch, hstate])).handXset _ _ _

theorem take {w : Dispatched} (h : CopiesKept s w.state) (e : TakeEntry) : CopiesKept s (w.take e).state := by
  unfold Dispatched.take
  dsimp only
  split
  next => exact h.dispatch e
  next => exact h

theorem retry {d : DestId} (h : CopiesKept s t) (hd : (t.dest d).state ≠ .faulted) : CopiesKept s (t.retry d) :=
  (h.setDestRec (by simp [hd])).handXset _ _ _

/-- Different destinations, none of them FAULTED, are sent their retries in turn: one's retry leaves the others out of FAULTED. -/
theorem retries {ds : List DestId} (h : CopiesKept s t) (hds : ds.Nodup) (hstate : ∀ d ∈ ds, (t.dest d).state ≠ .faulted) :
    CopiesKept s (Machine.forEach ds State.retry t) := by
  induction ds generalizing t with
  | nil => exact h
  | cons d ds ih =>
    obtain ⟨hd, hrest⟩ := List.nodup_cons.mp hds
    refine ih (h.retry (hstate d List.mem_cons_self)) hrest fun e he => ?_
    have hde : d ≠ e := fun heq => hd (heq ▸ he)
    rw [State.retry_dest_ne hde]
    exact hstate e (List.mem_cons_of_mem d he)

theorem frameEvent (h : CopiesKept s t) : CopiesKept s t.frameEvent := by
  unfold State.frameEvent
  split
  case isFalse => exact h
  case isTrue =>
    extract_lets w retried items
    have hemptied : CopiesKept s (t.onXpt fun x => { x with takes := [] }) := h.onXpt (fun _ => rfl) rfl
    have hdispatched : CopiesKept s w.state :=
      List.foldlRecOn (motive := fun w : Dispatched => CopiesKept s w.state) t.xpt.takes Dispatched.take hemptied
        fun _ hw e _ => hw.take e
    have hretried : CopiesKept s retried := by
      refine hdispatched.retries ((List.nodup_finRange 64).filter _) fun d hd => ?_
      have hwaiting := (List.mem_filter.mp hd).2
      rw [Bool.and_eq_true, beq_iff_eq] at hwaiting
      simp [hwaiting.1]
    exact ((hretried.onXpt (fun _ => rfl) rfl).raiseIf _ _).triggers _

end CopiesKept

namespace CopiesKept

variable {s t : State}

/-! ## The talk engine (chapter 8) -/

/-- Whatever an event does, its end tells the unit the talking ports as they now stand (R158). -/
theorem finishTalk (h : CopiesKept s t) (w : Work) : CopiesKept s (t.finishTalk w) := by
  have htold : CopiesKept { t with talk := w.talk } (Machine.forEach w.told State.handAset { t with talk := w.talk }) :=
    (CopiesKept.refl _).forEach (fun h => h.handAset _) _
  have htalk : (Machine.forEach w.told State.handAset { t with talk := w.talk }).talk = w.talk :=
    forEach_part .talk State.handAset (fun _ _ => by simp) w.told _
  unfold State.finishTalk
  dsimp only
  generalize Machine.forEach w.told State.handAset { t with talk := w.talk } = u at htold htalk
  have hreport : CopiesKept s (u.onGpio (·.tellTalking (.build 96 w.talk.talking))) :=
    { colours := htold.colours.trans h.colours
      combined := htold.combined.trans h.combined
      published := fun p => (htold.published p).trans (h.published p)
      watcher := htold.watcher.trans h.watcher
      freeRun := htold.freeRun.trans h.freeRun
      talking := fun _ n => by
        show (Tbl.build 96 w.talk.talking).get n = u.talk.talking n
        rw [Tbl.get_build', htalk]
      faulted := fun d hd => htold.faulted d (h.faulted d hd)
      absent := fun c hc => htold.absent c (h.absent c hc)
      outputs := fun hs => (htold.outputs (h.outputs hs)).tellTalking _ }
  exact (hreport.forEach (fun h => h.raise _) _).forEach (fun h => h.raise _) _

theorem talkEvent (h : CopiesKept s t) (f : Work → Work) : CopiesKept s (t.talkEvent f) := h.finishTalk _

theorem setRefused (h : CopiesKept s t) (p : PanelId) (k : KeyId) (on : Bool) : CopiesKept s (t.setRefused p k on) := h.keeps (by simp)

theorem pressTalk (h : CopiesKept s t) (p : PanelId) (k : KeyId) (target : Target) (priority : Bool) :
    CopiesKept s (t.pressTalk p k target priority) := by
  unfold State.pressTalk
  split
  next =>
    unfold State.pressTalkIdle
    dsimp only
    split
    next => exact (h.talkEvent _).setRefused p k true
    next => exact h.talkEvent _
  next => exact h.talkEvent _
  all_goals exact h

theorem releaseTalk (h : CopiesKept s t) (p : PanelId) (k : KeyId) (noLatch : Bool) : CopiesKept s (t.releaseTalk p k noLatch) := by
  unfold State.releaseTalk
  split
  next => split <;> exact h.talkEvent _
  next => exact h.talkEvent _
  next => exact h.talkEvent _
  next => exact h.talkEvent _
  next => exact h
  next => exact h

theorem pressListen (h : CopiesKept s t) (p : PanelId) (k : KeyId) (target : Target) : CopiesKept s (t.pressListen p k target) := by
  unfold State.pressListen
  dsimp only
  split
  next => exact h.talkEvent _
  next => split <;> exact h.talkEvent _

/-! ## The inputs (R165, R166, R169) -/

theorem setGpiRec (h : CopiesKept s t) (i : GpiId) (g : Gpi) : CopiesKept s (t.setGpiRec i g) :=
  h.alike { Alike.refl t with gpio := rfl }

theorem setArm (h : CopiesKept s t) (d : DestId) (on : Bool) : CopiesKept s (t.setArm d on) := by
  unfold State.setArm
  dsimp only
  split
  next => exact h
  next => exact h.onMap.triggers _

theorem handChange (h : CopiesKept s t) (i : GpiId) : CopiesKept s (t.handChange i) := by
  unfold State.handChange
  dsimp only
  split
  next => exact h
  next => exact h.triggers _
  next => exact h.talkEvent _
  next => exact h.setArm _ _

theorem debounce (h : CopiesKept s t) (i : GpiId) : CopiesKept s (t.debounce i) := by
  unfold State.debounce
  dsimp only
  split
  next => exact h
  next => exact (h.setGpiRec i _).handChange i

theorem rawChange (h : CopiesKept s t) (i : GpiId) : CopiesKept s (t.rawChange i) := by
  unfold State.rawChange
  dsimp only
  split
  next => exact (h.setGpiRec i _).debounce i
  next => exact h.setGpiRec i _

theorem debounceExpires (h : CopiesKept s t) (i : GpiId) : CopiesKept s (t.debounceExpires i) := (h.setGpiRec i _).debounce i

theorem rehandInputs (h : CopiesKept s t) : CopiesKept s t.rehandInputs := by
  refine h.forEach (fun {u i} hu => ?_) _
  dsimp only
  split
  next =>
    split
    next => exact hu.talkEvent _
    next => exact hu
  next => exact hu

/-! ## The mixer ports (chapter 4) -/

theorem mixerDiscard (h : CopiesKept s t) (p : Prod2) : CopiesKept s (t.mixerDiscard p) := h.keeps (by simp)
theorem setMixerRx (h : CopiesKept s t) (p : Prod2) (rx : Rx) : CopiesKept s (t.setMixerRx p rx) := h.keeps (by simp)

theorem mixerFrame (h : CopiesKept s t) (p : Prod2) (kind : Byte) (body : List Byte) : CopiesKept s (t.mixerFrame p kind body) := by
  have hstage (k : StageId) (r : RawStage) : CopiesKept s (t.applyStage p k r) := trigger (h.keeps (by simp)) p
  have hkeep : CopiesKept s (t.applyKeep p) := triggerIf (h.keeps (by simp)) _ p
  unfold State.mixerFrame
  split
  next =>
    split
    next =>
      split
      next => exact hstage _ _
      next => exact h.mixerDiscard p
    next => exact h.mixerDiscard p
  next =>
    split
    next => exact hkeep
    next => exact h.mixerDiscard p

theorem mixerByte (h : CopiesKept s t) (p : Prod2) (b : RxByte) : CopiesKept s (t.mixerByte p b) := by
  have hrx := h.setMixerRx p ((t.mixers.get p).rx.take t.clock b).1
  unfold State.mixerByte
  dsimp only
  split
  next => exact hrx
  next => exact hrx
  next => exact hrx.mixerDiscard p
  next => exact hrx.mixerFrame p _ _

theorem mixerWhole (h : CopiesKept s t) (p : Prod2) (kind tag : Byte) (body : List Byte) : CopiesKept s (t.mixerWhole p kind tag body) := by
  unfold State.mixerWhole
  split
  next => exact (h.setMixerRx p _).mixerFrame p kind body
  next => exact h

theorem mixerStale (h : CopiesKept s t) (p : Prod2) : CopiesKept s (t.mixerStale p) := trigger (raise (h.keeps (by simp)) _) p

/-! ## The panel roster (chapter 7) -/

theorem setLoop (h : CopiesKept s t) (l : LoopId) (x : Loop) : CopiesKept s (t.setLoop l x) := h.keeps (by simp)
theorem onEntry (h : CopiesKept s t) (p : PanelId) (f : RosterEntry → RosterEntry) : CopiesKept s (t.onEntry p f) := h.keeps (by simp)
theorem setWanted (h : CopiesKept s t) (p : PanelId) (on : Bool) : CopiesKept s (t.setWanted p on) := h.keeps (by simp)
theorem markStale (h : CopiesKept s t) (p : PanelId) (f : KeyFn → Bool) : CopiesKept s (t.markStale p f) := h.keeps (by simp)
theorem setKeyHold (h : CopiesKept s t) (p : PanelId) (k : KeyId) (x : KeyHold) : CopiesKept s (t.setKeyHold p k x) := h.keeps (by simp)
theorem enterJoining (h : CopiesKept s t) (p : PanelId) (i : Option Ident) : CopiesKept s (t.enterJoining p i) := h.keeps (by simp)
theorem enterEmpty (h : CopiesKept s t) (p : PanelId) : CopiesKept s (t.enterEmpty p) := h.keeps (by simp)
theorem raiseRoster (h : CopiesKept s t) (l : LoopId) (c : RosterCause) (xs : List RosterItem) : CopiesKept s (t.raiseRoster l c xs) :=
  h.keeps (by simp)
theorem holdExpires (h : CopiesKept s t) (p : PanelId) : CopiesKept s (t.holdExpires p) := h.keeps (by simp)

theorem enterActive (h : CopiesKept s t) (p : PanelId) : CopiesKept s (t.enterActive p) := (h.onEntry p _).locksActive p
theorem returnActive (h : CopiesKept s t) (p : PanelId) :
    CopiesKept s (t.returnActive p) := ((h.onEntry p _).setWanted p true).locksActive p

theorem enterSilent (h : CopiesKept s t) (p : PanelId) : CopiesKept s (t.enterSilent p) := ((h.onEntry p _).talkEvent _).markStale p _

theorem enterLost (h : CopiesKept s t) (p : PanelId) (deadlines : Bool) : CopiesKept s (t.enterLost p deadlines) := by
  have hlost : CopiesKept s ((t.onEntry p fun e => { e with state := .lost, lostAt := some t.clock }).talkLost p) :=
    (h.onEntry p _).talkEvent _
  unfold State.enterLost
  dsimp only
  split
  next => exact (hlost.locksLost p).keeps (by simp)
  next => exact hlost.keeps (by simp)

theorem dispatchDown (h : CopiesKept s t) (p : PanelId) (k : KeyId) : CopiesKept s (t.dispatchDown p k) := by
  unfold State.dispatchDown
  dsimp only
  split
  next => exact h
  next => exact h.pressTalk p k _ _
  next => exact h.pressListen p k _
  next => exact h.keeps (by simp)
  next => exact h.pressSource p k _
  next => exact h.pressLock p
  next => exact h.pressSalvo p k _

theorem dispatchUp (h : CopiesKept s t) (p : PanelId) (k : KeyId) : CopiesKept s (t.dispatchUp p k) := by
  unfold State.dispatchUp
  dsimp only
  split
  next => exact h.releaseTalk p k _
  next => exact h

theorem admitDown (h : CopiesKept s t) (p : PanelId) (k : KeyId) : CopiesKept s (t.admitDown p k) := by
  unfold State.admitDown
  split
  next => exact h.setKeyHold p k _
  next => exact (h.setKeyHold p k _).dispatchDown p k

theorem keyDown (h : CopiesKept s t) (p : PanelId) (k : KeyId) : CopiesKept s (t.keyDown p k) := by
  unfold State.keyDown
  split
  next => exact h.admitDown p k
  next => exact h

theorem keyUp (h : CopiesKept s t) (p : PanelId) (k : KeyId) : CopiesKept s (t.keyUp p k) := by
  have hup := (h.setKeyHold p k .up).setRefused p k false
  unfold State.keyUp
  dsimp only
  split
  next => exact hup.dispatchUp p k
  next => exact hup

theorem keyEvent (h : CopiesKept s t) (p : PanelId) (e : KeyEvent) : CopiesKept s (t.keyEvent p e) := by
  unfold State.keyEvent
  split
  next => exact h
  next =>
    split
    next =>
      split
      next => exact h.keyDown p _
      next => exact h.keyUp p _
    next => exact h

theorem keyImage (h : CopiesKept s t) (p : PanelId) (down : BitVec 48) : CopiesKept s (t.keyImage p down) :=
  (h.forEach (fun h => h.keyUp p _) _).forEach (fun h => h.admitDown p _) _

theorem replyMoves (h : CopiesKept s t) (p : PanelId) (query : Bool) (r : LoopReply) : CopiesKept s (t.replyMoves p query r) := by
  unfold State.replyMoves
  split
  next => exact h.enterJoining p _
  next => exact h.enterJoining p _
  next =>
    split
    next => exact h.enterActive p
    next => exact h
  next => exact h.returnActive p
  next => exact h

theorem applyContents (h : CopiesKept s t) (p : PanelId) (r : LoopReply) : CopiesKept s (t.applyContents p r) := by
  unfold State.applyContents
  split
  next => exact h.forEach (fun h => h.keyEvent p _) _
  next => exact h.keyImage p _
  next => exact h

theorem reportReply (h : CopiesKept s t) (p : PanelId) (m : LoopMessage) (r : LoopReply) : CopiesKept s (t.reportReply p m r) := by
  unfold State.reportReply
  dsimp only
  split
  next =>
    split
    next => exact ((h.onEntry p _).enterJoining p _).raiseRoster _ _ _
    next => exact h
  next => exact (((h.onEntry p _).replyMoves p _ r).raiseRoster _ _ _).applyContents p r

theorem applyMiss (h : CopiesKept s t) (p : PanelId) (f : LoopFault) : CopiesKept s (t.applyMiss p f) := by
  unfold State.applyMiss
  dsimp only
  have hcounted := h.onEntry p fun e => { e with missed := bump255 e.missed, lastFault := some f }
  split
  next => exact h
  next =>
    split
    next =>
      split
      next => exact hcounted.enterSilent p
      next => exact hcounted
    next =>
      split
      next => exact hcounted.enterLost p true
      next => exact hcounted
    next =>
      split
      next => exact hcounted.enterLost p true
      next => exact hcounted
    next => exact hcounted

theorem reportMiss (h : CopiesKept s t) (p : PanelId) (f : LoopFault) : CopiesKept s (t.reportMiss p f) :=
  (h.applyMiss p f).raiseRoster _ _ _

theorem missAll (h : CopiesKept s t) (l : LoopId) (f : LoopFault) (c : RosterCause) : CopiesKept s (t.missAll l f c) :=
  (h.forEach (fun h => h.applyMiss _ f) _).raiseRoster _ _ _

theorem passage (h : CopiesKept s t) (p : PanelId) (deadlines : Bool) : CopiesKept s (t.passage p deadlines) := by
  unfold State.passage
  split
  next => exact h
  next => exact (h.enterLost p deadlines).enterEmpty p

theorem passLoop (h : CopiesKept s t) (l : LoopId) (c : RosterCause) (deadlines : Bool) : CopiesKept s (t.passLoop l c deadlines) :=
  (h.forEach (fun h => h.passage _ deadlines) _).raiseRoster _ _ _

/-! ## The loop controllers (chapter 6) -/

theorem beginIf (h : CopiesKept s t) (l : LoopId) (f : Next → Bool) : CopiesKept s (t.beginIf l f) := h.keeps (by simp)

theorem exchangeMissed (h : CopiesKept s t) (l : LoopId) (e : LoopExchange) (f : LoopFault) : CopiesKept s (t.exchangeMissed l e f) := by
  have hcounted := h.setLoop l { t.loop l with exchange := none, more := none, counts := (t.loop l).counts.miss f }
  unfold State.exchangeMissed
  dsimp only
  split
  next => exact hcounted
  next => exact hcounted.reportMiss _ f

theorem settleLamps (h : CopiesKept s t) (p : PanelId) (m : LoopMessage) (r : LoopReply) : CopiesKept s (t.settleLamps p m r) :=
  h.keeps (by simp)

theorem exchangeAnswered (h : CopiesKept s t) (l : LoopId) (e : LoopExchange) (r : LoopReply) :
    CopiesKept s (t.exchangeAnswered l e r) := by
  have hended := h.setLoop l { t.loop l with exchange := none, more := moreAfter (t.loop l).more e r }
  have hsettled := hended.settleLamps ⟨l, e.addr⟩ e.message r
  unfold State.exchangeAnswered
  dsimp only
  split
  next => exact (hsettled.setWanted _ false).reportReply _ _ _
  next => exact hsettled.reportReply _ _ _

theorem judgeReply (h : CopiesKept s t) (l : LoopId) (e : LoopExchange) (cs : List LoopChar) : CopiesKept s (t.judgeReply l e cs) := by
  unfold State.judgeReply
  split
  next => exact h.exchangeMissed l e _
  next =>
    split
    next => exact h.exchangeAnswered l e _
    next => exact h.exchangeMissed l e _

theorem takeChar (h : CopiesKept s t) (l : LoopId) (c : LineChar) : CopiesKept s (t.takeChar l c) := by
  unfold State.takeChar
  dsimp only
  split
  next => exact h
  next =>
    split
    case isFalse => exact h
    case isTrue =>
      split
      next => exact h.setLoop l _
      next =>
        split
        next =>
          split
          next => exact (h.setLoop l _).judgeReply l _ _
          next => exact h.setLoop l _
        next => exact h.setLoop l _

theorem takeReply (h : CopiesKept s t) (l : LoopId) (data : List Byte) : CopiesKept s (t.takeReply l data) := by
  unfold State.takeReply
  dsimp only
  split
  next => exact h
  next =>
    split
    next => exact (h.setLoop l _).judgeReply l _ _
    next => exact h

theorem enterRunning (h : CopiesKept s t) (l : LoopId) : CopiesKept s (t.enterRunning l) := h.keeps (by simp)

theorem enterLineFault (h : CopiesKept s t) (l : LoopId) (was : FaultedFrom) (notice : Bool) :
    CopiesKept s (t.enterLineFault l was notice) := ((h.setLoop l _).raiseIf _ _).missAll l _ _

theorem longBreak (h : CopiesKept s t) (l : LoopId) : CopiesKept s (t.longBreak l) := by
  unfold State.longBreak
  dsimp only
  split
  next =>
    split
    next => exact h.enterLineFault l _ _
    next => exact h.enterLineFault l _ _
    next => exact h.enterLineFault l _ _
    next => exact h
  next => exact h

theorem waitEnds (h : CopiesKept s t) (l : LoopId) (lineHigh : Bool) : CopiesKept s (t.waitEnds l lineHigh) := by
  unfold State.waitEnds
  dsimp only
  split
  next =>
    split
    next =>
      split
      next => exact h.setLoop l _
      next => exact h.enterRunning l
    next => exact h.enterLineFault l _ _
  next => exact h.setLoop l _
  next => exact h

theorem searchFails (h : CopiesKept s t) (l : LoopId) (failed : Bool) (why : LoopChange) : CopiesKept s (t.searchFails l failed why) :=
  ((h.setLoop l _).raiseIf _ _).missAll l _ _

theorem measured (h : CopiesKept s t) (l : LoopId) (c : Nat) : CopiesKept s (t.measured l c) := by
  unfold State.measured
  dsimp only
  split
  next =>
    split
    next => exact h.setLoop l _
    next => exact h.searchFails l _ _
  next => exact h

theorem restartLoop (h : CopiesKept s t) (l : LoopId) (c : RosterCause) (deadlines : Bool) (after : LoopState) :
    CopiesKept s (t.restartLoop l c deadlines after) := ((h.setLoop l _).passLoop l c deadlines).setLoop l _

theorem restartLoops (h : CopiesKept s t) : CopiesKept s t.restartLoops := by
  refine h.forEach (fun {u l} hu => ?_) _
  split
  next => exact hu.passLoop l _ _
  next => exact hu.restartLoop l _ _ _

/-! ## The owners' requests (R191) -/

theorem setKeymap (h : CopiesKept s t) (p : PanelId) (k : KeyMapEntry) : CopiesKept s (t.setKeymap p k) := h.keeps (by simp)

theorem clearMappings (h : CopiesKept s t) (is : List GpiId) : CopiesKept s (t.onGpio (·.clearMappings is)) :=
  h.alike { Alike.refl t with gpio := rfl }

theorem changeClass (h : CopiesKept s t) (tag : Nat) (b : BlockId) (c : FeedClass) : CopiesKept s (t.changeClass tag b c) := by
  unfold State.changeClass
  exact ((h.onMap.clearMappings _).raiseIf _ _).triggers _

/-- What an owner answers is no part of the state it leaves. -/
theorem answer (h : CopiesKept s t) (a : Answer) : CopiesKept s (t, a).1 := h

theorem setClass (h : CopiesKept s t) (tag b c : Nat) : CopiesKept s (serveSetClass tag b c t).1 := by
  unfold serveSetClass
  split
  next => exact h
  next =>
    split
    next => exact h
    next =>
      split
      next => exact h
      next =>
        dsimp only
        split
        next => exact h
        next => exact h.changeClass tag _ _

theorem setCamera (h : CopiesKept s t) (x p : Nat) : CopiesKept s (serveSetCamera x p t).1 := by
  unfold serveSetCamera
  split
  next => exact h
  next =>
    split
    next => exact h
    next =>
      split
      next => exact h
      next =>
        dsimp only
        split
        next => exact h
        next => exact h.onMap.triggers _

theorem setInput (h : CopiesKept s t) (p i k x : Nat) : CopiesKept s (serveSetInput p i k x t).1 := by
  unfold serveSetInput
  split
  next =>
    split
    next => exact h
    next =>
      dsimp only
      split
      next => exact h
      next => exact h.onMap.trigger _
  next => exact h

theorem setDest (h : CopiesKept s t) (d : Nat) (p r a : Option Nat) : CopiesKept s (serveSetDest d p r a t).1 := by
  unfold serveSetDest
  split
  next => exact h
  next =>
    split
    next =>
      dsimp only
      split
      next => exact h
      next => exact h.onMap.triggers _
    next => exact h

theorem writeThresholds (h : CopiesKept s t) (a v : Option Nat) (q : Prod2) : CopiesKept s (t.writeThresholds a v q) := h.keeps (by simp)

theorem setThreshold (h : CopiesKept s t) (p : Nat) (a v : Option Nat) : CopiesKept s (serveSetThreshold p a v t).1 := by
  unfold serveSetThreshold
  split
  next => exact h
  next => exact ((h.forEach (fun {_ q} hu => hu.writeThresholds a v q) _).triggers _).answer _

theorem loopGoes (h : CopiesKept s t) (l : LoopId) (wasOff on : Bool) : CopiesKept s (t.loopGoes l wasOff on) := by
  unfold State.loopGoes
  split
  next =>
    split
    next => exact h.setLoop l _
    next => exact h
  next =>
    split
    next => exact h.restartLoop l _ _ _
    next => exact (h.restartLoop l _ _ _).raise _

theorem setLoopRequest (h : CopiesKept s t) (l : Nat) (e r k : Option Nat) : CopiesKept s (serveSetLoop l e r k t).1 := by
  unfold serveSetLoop
  split
  next =>
    dsimp only
    split
    next => exact h
    next => exact (h.setLoop _ _).loopGoes _ _ _
  next => exact h

theorem loopRestart (h : CopiesKept s t) (l : Nat) : CopiesKept s (serveLoopRestart l t).1 := by
  unfold serveLoopRestart
  split
  next => exact h
  next =>
    split
    next => exact h
    next => exact h.restartLoop _ _ _ _

theorem changeKey (h : CopiesKept s t) (p : PanelId) (k : KeyId) : CopiesKept s (t.changeKey p k) := h.keeps (by simp)

theorem writeKeymap (h : CopiesKept s t) (p : PanelId) (new : KeyMapEntry) : CopiesKept s (t.writeKeymap p new) := by
  unfold State.writeKeymap
  extract_lets old changed moved written told keyed
  have htold : CopiesKept s told := by
    unfold told
    split
    next => exact h.setKeymap p new
    next => exact (h.setKeymap p new).talkEvent _
  have hkeyed : CopiesKept s keyed := htold.forEach (fun h => h.changeKey p _) _
  split
  next => exact hkeyed.markStale p _
  next => exact hkeyed

theorem setKeymapRequest (h : CopiesKept s t) (l a : Nat) (p o : Option Nat) (ks : List RawKey) :
    CopiesKept s (serveSetKeymap l a p o ks t).1 := by
  unfold serveSetKeymap
  split
  next =>
    split
    next => exact h
    next => exact h.writeKeymap _ _
  next => exact h

theorem setSlots (h : CopiesKept s t) (l a : Nat) (w x y z : Option Nat) : CopiesKept s (serveSetSlots l a w x y z t).1 := h.keeps (by simp)

theorem setGroup (h : CopiesKept s t) (g : Nat) (ms : List Nat) : CopiesKept s (serveSetGroup g ms t).1 := by
  unfold serveSetGroup
  split
  next =>
    split
    next => exact h
    next =>
      dsimp only
      split
      next => exact h
      next => exact h.talkEvent _
  next => exact h

theorem setIfb (h : CopiesKept s t) (c n p d : Nat) : CopiesKept s (serveSetIfb c n p d t).1 := by
  unfold serveSetIfb
  split
  next =>
    split
    next => exact h
    next =>
      dsimp only
      split
      next => exact h
      next =>
        split
        next => exact h
        next => exact (h.talkEvent _).answer _
  next => exact h

theorem setLatch (h : CopiesKept s t) (w : Nat) : CopiesKept s (serveSetLatch w t).1 :=
  h.alike { Alike.refl t with talking := fun _ => rfl }

theorem talk (h : CopiesKept s t) (path action port : Nat) (target : RawTarget) :
    CopiesKept s (serveTalk path action port target t).1 := by
  have htalkOn (n : PortId) (x : Target) : CopiesKept s (t.linkTalkOn n x).1 := by
    unfold State.linkTalkOn
    split
    next => exact h
    next =>
      split
      next => exact h
      next =>
        split
        next => exact h
        next => exact (h.talkEvent _).answer _
  have hlistenOn (n : PortId) (x : Target) : CopiesKept s (t.linkListenOn n x).1 := by
    unfold State.linkListenOn
    split
    next => exact h
    next =>
      split
      next => exact h
      next => exact (h.talkEvent _).answer _
  have htalkOff (n : PortId) (x : Target) : CopiesKept s (t.linkTalkOff n x).1 := by
    unfold State.linkTalkOff
    split
    next => exact h
    next => exact (h.talkEvent _).answer _
  have hlistenOff (n : PortId) (x : Target) : CopiesKept s (t.linkListenOff n x).1 := by
    unfold State.linkListenOff
    split
    next => exact h
    next => exact (h.talkEvent _).answer _
  unfold serveTalk
  split
  next =>
    split
    next => exact h
    next =>
      split
      next => exact htalkOn _ _
      next => exact htalkOff _ _
      next => exact hlistenOn _ _
      next => exact hlistenOff _ _
  next => exact h

theorem changeMapping (h : CopiesKept s t) (i : GpiId) (new : GpiMap) : CopiesKept s (t.changeMapping i new) := by
  have hwritten := h.setGpiRec i { t.gpi i with mapping := new }
  unfold State.changeMapping
  dsimp only
  split
  next => exact (hwritten.talkEvent _).triggers _
  next => exact hwritten.triggers _

theorem setGpi (h : CopiesKept s t) (i : Nat) (m : Option RawGpiMap) (d : Option Nat) : CopiesKept s (serveSetGpi i m d t).1 := by
  unfold serveSetGpi
  split
  next i _ _ _ =>
    split
    next => exact h
    next =>
      extract_lets old timed mapped
      have htimed : CopiesKept s timed := by
        unfold timed
        split
        next => exact h.setGpiRec i _
        next => exact h
      show CopiesKept s mapped
      unfold mapped
      split
      next =>
        split
        next => exact htimed
        next => exact htimed.changeMapping i _
      next => exact htimed
  next => exact h

/-- A new mapping is evaluated against the copies as held, which stay as they are (R172). -/
theorem setOutput (h : CopiesKept s t) (o : GpoId) (m : GpoMap) :
    CopiesKept s (t.onGpio fun g => { g with outputs := g.outputs.set o ⟨m, g.holds m⟩ }) :=
  { h with outputs := fun hs => (h.outputs hs).setOutput o m }

theorem setGpo (h : CopiesKept s t) (o : Nat) (m : RawGpoMap) : CopiesKept s (serveSetGpo o m t).1 := by
  unfold serveSetGpo
  split
  next =>
    dsimp only
    split
    next => exact h
    next => exact h.setOutput _ _
  next => exact h

theorem takeRequest (h : CopiesKept s t) (d f : Nat) (forced : Bool) : CopiesKept s (serveTake d f forced t).1 := by
  unfold serveTake
  split
  next d f _ _ =>
    have hoffered := h.offerTake d f .link forced
    split
    next heq => rw [heq] at hoffered; exact hoffered
    next heq => rw [heq] at hoffered; exact hoffered
    next heq => rw [heq] at hoffered; exact hoffered
  next => exact h

theorem lock (h : CopiesKept s t) (d : Nat) : CopiesKept s (serveLock d t).1 := by
  unfold serveLock
  split
  next => exact h
  next =>
    split
    next => exact h.acquireLock _ _
    next => split <;> exact h

theorem unlock (h : CopiesKept s t) (d : Nat) (forced : Bool) : CopiesKept s (serveUnlock d forced t).1 := by
  unfold serveUnlock
  split
  next => exact h
  next =>
    split
    next => exact h
    next =>
      split
      next => exact h.removeLock _ _ _
      next =>
        split
        next => exact h.removeLock _ _ _
        next => exact h

theorem setFilter (h : CopiesKept s t) (ks : BitVec 16) : CopiesKept s (serveSetFilter ks t).1 := h.keeps (by simp)
theorem salvoWrite (h : CopiesKept s t) (tag p : Nat) (es : List RawEntry) : CopiesKept s (serveSalvoWrite tag p es t).1 :=
  h.keeps (by simp)
theorem salvoErase (h : CopiesKept s t) (tag p : Nat) : CopiesKept s (serveSalvoErase tag p t).1 := h.keeps (by simp)
theorem salvoBoot (h : CopiesKept s t) (tag p : Nat) : CopiesKept s (serveSalvoBoot tag p t).1 := h.keeps (by simp)

theorem salvoRecall (h : CopiesKept s t) (n : Nat) : CopiesKept s (serveSalvoRecall n t).1 := by
  unfold serveSalvoRecall
  split
  next => exact h
  next =>
    split
    next => exact h
    next => exact h.offerGroup _ _ _

/-- Every owner's service keeps the agreement; a read, a filter and a programming reach no owner of a condition. -/
theorem serveRequest (h : CopiesKept s t) (tag : Nat) (r : Request) : CopiesKept s (serveRequest tag r t).1 := by
  cases r with
  | setClass b c => exact h.setClass tag b c
  | setCamera x p => exact h.setCamera x p
  | setInput p i k x => exact h.setInput p i k x
  | setDest d p r a => exact h.setDest d p r a
  | setThreshold p a v => exact h.setThreshold p a v
  | setLoop l e r k => exact h.setLoopRequest l e r k
  | setKeymap l a p o ks => exact h.setKeymapRequest l a p o ks
  | setSlots l a w x y z => exact h.setSlots l a w x y z
  | setGroup g ms => exact h.setGroup g ms
  | setIfb c n p d => exact h.setIfb c n p d
  | setLatch w => exact h.setLatch w
  | setGpi i m d => exact h.setGpi i m d
  | setGpo o m => exact h.setGpo o m
  | setFilter ks => exact h.setFilter ks
  | take d f x => exact h.takeRequest d f x
  | lock d => exact h.lock d
  | unlock d x => exact h.unlock d x
  | talk p a n x => exact h.talk p a n x
  | salvoWrite p es => exact h.salvoWrite tag p es
  | salvoErase p => exact h.salvoErase tag p
  | salvoBoot p => exact h.salvoBoot tag p
  | salvoRecall p => exact h.salvoRecall p
  | loopRestart l => exact h.loopRestart l
  | _ => exact h

/-! ## The request queue (R189 to R191, R200) -/

theorem restartBlocks (h : CopiesKept s t) : CopiesKept s t.restartBlocks :=
  ((((h.restartCrosspoint.talkEvent _).rehandInputs).restartLoops).triggers _).restartFabric

theorem serveHead (h : CopiesKept s t) : CopiesKept s t.serveHead := by
  unfold State.serveHead
  split
  next => exact h
  next =>
    split
    next => exact h
    next =>
      split
      next => exact h.onLink.restartBlocks
      next => exact (h.onLink.serveRequest _ _).onLink

theorem pumpFor (h : CopiesKept s t) (n : Nat) : CopiesKept s (State.pumpFor n t) := by
  induction n generalizing t with
  | zero => exact h
  | succ n ih => exact ih h.serveHead

theorem arrive (h : CopiesKept s t) (tag : Nat) (r : Request) : CopiesKept s (t.arrive tag r) := h.onLink.pumpFor _

theorem linkFrame (h : CopiesKept s t) (kind tag : Byte) (body : List Byte) : CopiesKept s (t.linkFrame kind tag body) := by
  unfold State.linkFrame
  split
  next =>
    split
    next => exact h.arrive _ _
    next => exact h.onLink
  next => exact h.onLink

theorem linkByte (h : CopiesKept s t) (b : RxByte) : CopiesKept s (t.linkByte b) := by
  unfold State.linkByte
  dsimp only
  split
  next => exact h.onLink
  next => exact h.onLink.onLink
  next => exact h.onLink.onLink
  next => exact h.onLink.linkFrame _ _ _

theorem linkWhole (h : CopiesKept s t) (kind tag : Byte) (body : List Byte) : CopiesKept s (t.linkWhole kind tag body) := by
  unfold State.linkWhole
  split
  next => exact h.onLink.linkFrame _ _ _
  next => exact h

theorem linkSent (h : CopiesKept s t) : CopiesKept s t.linkSent := by
  unfold State.linkSent
  split
  next => exact h.onLink.pumpFor _
  next => exact h

theorem compose (h : CopiesKept s t) : CopiesKept s t.compose := h.keeps (by simp)

/-- What ends every step moves no condition (R42, R127). -/
theorem settle (h : CopiesKept s t) : CopiesKept s t.settle := by
  have hchosen : CopiesKept s (t.onFabric Fabric.choose) := h.onFabric (Fabric.choose_presence t.fabric)
  exact hchosen.compose

theorem raiseCycle (h : CopiesKept s t) (p : Prod2) (old new : Option Cut) : CopiesKept s (t.raiseCycle p old new) := h.keeps (by simp)

/-- The engine's next run publishes nothing yet (R71). -/
theorem nextRun (h : CopiesKept s t) (p : Prod2) : CopiesKept s (t.nextRun p) := by
  unfold State.nextRun
  dsimp only
  split
  next => exact h.startRun p
  next => exact h.setEngine rfl

end CopiesKept

/-! ## The device's rows -/

/-- In every state that an outcome goes on to, the copies and the outputs agree. -/
def EndsAgreed (o : Host.Outcome State Fault Refusal) : Prop := ∀ t, o = .next t → t.gpioAgrees

section rows

variable {s u : State}

theorem State.gpioAgrees.stays (h : s.gpioAgrees) : EndsAgreed (.next s) := by
  rintro t ⟨⟩
  exact h

theorem State.gpioAgrees.settles (h : s.gpioAgrees) : EndsAgreed (Machine.ended s) := (h.kept (CopiesKept.refl s).settle).stays

theorem State.gpioAgrees.ends (h : s.gpioAgrees) (k : CopiesKept s u) : EndsAgreed (Machine.ended u) := (h.kept k).settles

/-- A hard reset brings every owner and every copy to its reset value (R170). -/
theorem atReset_gpioAgrees (now : Nat) (pages : Tbl 48 Page) (header : BootHeader) (raws : Tbl 16 Bool) (pending : List Instr) :
    ({ State.atReset now pages header raws with pending := pending } : State).gpioAgrees where
  colours p x := by cases p <;> simp [State.atReset, Gpio.reset, Engine.reset, TallyRec.reset, Pair.get]
  combined x := by simp [State.atReset, Gpio.reset, State.combinedColour, Engine.reset, TallyRec.reset, Colour.higher]
  talking n := by
    show (Tbl.replicate 96 false).get n = Talk.reset.talking n
    rw [Tbl.get_replicate']
    simp [Talk.talking, Talk.reset, Tbl.replicate]
  faulted d := by simp [State.atReset, Gpio.reset, State.dest, Crosspoint.reset, Dest.reset]
  absent c := by simp [State.atReset, Gpio.reset, State.card, Fabric.reset, Card.reset]
  freeRun := by simp [State.atReset, Gpio.reset, Crosspoint.reset]
  outputs o := by simp [State.atReset, Gpio.reset, Gpio.holds]

theorem execHardReset_endsAgreed (s : State) : EndsAgreed (execHardReset s) := by
  unfold execHardReset
  exact (atReset_gpioAgrees _ _ _ _ _).stays

/-- A watcher that moves within LOCKED or within FREE_RUN leaves the frame condition. -/
theorem setWatcher_gpioAgrees {w : Watcher} (h : s.gpioAgrees)
    (hw : (∃ t, s.xpt.watcher.state = .freeRun t) ↔ ∃ t, w.state = .freeRun t) : (s.setWatcher w).gpioAgrees :=
  { h with freeRun := h.freeRun.trans hw }

/-- A pulse tells the unit that FREE_RUN ends; in LOCKED it leaves the frame condition (R22, R23). -/
theorem pulse_gpioAgrees (h : s.gpioAgrees) : s.pulse.gpioAgrees := by
  unfold State.pulse
  dsimp only
  split
  next hstate => exact (setWatcher_gpioAgrees h (by simp [hstate])).kept (CopiesKept.refl _).frameEvent
  next => exact h.tellFrame ((CopiesKept.refl _).frameEvent.raise _) (by simp)

theorem frameLost_gpioAgrees (h : s.gpioAgrees) : s.frameLost.gpioAgrees :=
  h.tellFrame ((CopiesKept.refl _).frameEvent.raise _) (by simp)

theorem freeRunTick_gpioAgrees (h : s.gpioAgrees) : s.freeRunTick.gpioAgrees := by
  unfold State.freeRunTick
  dsimp only
  split
  next hstate => exact (setWatcher_gpioAgrees h (by simp [hstate])).kept (CopiesKept.refl _).frameEvent
  next => exact h

/-- A publication delivers what it publishes before anything reads the copies (R87, R88). -/
theorem publish_gpioAgrees (h : s.gpioAgrees) (p : Prod2) (x : Snapshot) : (s.publish p x).gpioAgrees := by
  have hdelivered {e : Engine} {v : State} (k : CopiesKept (s.setEngine p e) v) : (v.deliver p).gpioAgrees := by
    unfold State.deliver
    exact (h.deliver k).kept ((CopiesKept.refl _).talkEvent _)
  unfold State.publish
  extract_lets old published new changes noticed
  have hnoticed : CopiesKept published noticed := ((CopiesKept.refl _).raiseCycle p _ _).raiseIf _ _
  clear_value noticed
  exact (hdelivered hnoticed).kept ((CopiesKept.refl _).nextRun p)

/-! Rows whose event may not be due: an expiry of a timer that does not run, or an end of work that is not under way, changes nothing
(log entry 3). -/

theorem execClGapTimeout_endsAgreed (h : s.gpioAgrees) : EndsAgreed (execClGapTimeout s) := by
  unfold execClGapTimeout
  split
  next => exact h.stays
  next => exact h.ends ((CopiesKept.refl s).reach _).onLink

theorem execMixerGapTimeout_endsAgreed (h : s.gpioAgrees) (port : Prod2) : EndsAgreed (execMixerGapTimeout port s) := by
  unfold execMixerGapTimeout
  split
  next => exact h.stays
  next => exact h.ends ((((CopiesKept.refl s).reach _).setMixerRx port _).mixerDiscard port)

theorem execMixerStaleTimeout_endsAgreed (h : s.gpioAgrees) (port : Prod2) : EndsAgreed (execMixerStaleTimeout port s) := by
  unfold execMixerStaleTimeout
  split
  next => exact h.stays
  next => exact h.ends (((CopiesKept.refl s).reach _).mixerStale port)

theorem execComputationComplete_endsAgreed (h : s.gpioAgrees) (production : Prod2) : EndsAgreed (execComputationComplete production s) := by
  unfold execComputationComplete
  split
  next => exact h.stays
  next => exact (publish_gpioAgrees h production _).settles

theorem execFrameLossTimeout_endsAgreed (h : s.gpioAgrees) : EndsAgreed (execFrameLossTimeout s) := by
  unfold execFrameLossTimeout
  split
  next => exact h.stays
  next => exact (frameLost_gpioAgrees (h.kept ((CopiesKept.refl s).reach _))).settles

theorem execFreeRunPeriodExpiry_endsAgreed (h : s.gpioAgrees) : EndsAgreed (execFreeRunPeriodExpiry s) := by
  unfold execFreeRunPeriodExpiry
  split
  next => exact h.stays
  next => exact (freeRunTick_gpioAgrees (h.kept ((CopiesKept.refl s).reach _))).settles

theorem execFabricStrayRecord_endsAgreed (h : s.gpioAgrees) (bytes : LineBytes) : EndsAgreed (execFabricStrayRecord bytes s) := by
  unfold execFabricStrayRecord
  dsimp only
  split
  next => exact (h.kept ((CopiesKept.refl s).setFabricRx _)).stays
  next => exact h.ends (((CopiesKept.refl s).setFabricRx _).takeRecord _)

theorem execFabricReplyTimeout_endsAgreed (h : s.gpioAgrees) (card : CardId) : EndsAgreed (execFabricReplyTimeout card s) := by
  unfold execFabricReplyTimeout
  split
  next => exact h.stays
  next => exact h.ends (((CopiesKept.refl s).reach _).exchangeTimedOut card _).checkAdoption

theorem execProbeTimerExpiry_endsAgreed (h : s.gpioAgrees) (card : CardId) : EndsAgreed (execProbeTimerExpiry card s) := by
  unfold execProbeTimerExpiry
  split
  next => exact h.stays
  next => exact h.ends ((((CopiesKept.refl s).reach _).setCard (by rfl)).onFabric fun _ => rfl)

theorem execLoopReplyWindowTimeout_endsAgreed (h : s.gpioAgrees) (loop : LoopId) : EndsAgreed (execLoopReplyWindowTimeout loop s) := by
  unfold execLoopReplyWindowTimeout
  split
  next => exact h.ends (((CopiesKept.refl s).reach _).exchangeMissed loop _ _)
  next => exact h.stays

theorem execLoopReplyGapTimeout_endsAgreed (h : s.gpioAgrees) (loop : LoopId) : EndsAgreed (execLoopReplyGapTimeout loop s) := by
  unfold execLoopReplyGapTimeout
  split
  next => exact h.ends (((CopiesKept.refl s).reach _).exchangeMissed loop _ _)
  next => exact h.stays

theorem execRosterHoldExpiry_endsAgreed (h : s.gpioAgrees) (panel : PanelId) : EndsAgreed (execRosterHoldExpiry panel s) := by
  unfold execRosterHoldExpiry
  split
  next => exact h.ends (((CopiesKept.refl s).reach _).holdExpires panel)
  next => exact h.stays

theorem execLockDeadlineExpiry_endsAgreed (h : s.gpioAgrees) (panel : PanelId) : EndsAgreed (execLockDeadlineExpiry panel s) := by
  unfold execLockDeadlineExpiry
  split
  next => exact h.stays
  next => exact h.ends (((CopiesKept.refl s).reach _).locksExpire _ _)

theorem execLatchTimerExpiry_endsAgreed (h : s.gpioAgrees) (panel : PanelId) (key : KeyId) :
    EndsAgreed (execLatchTimerExpiry panel key s) := by
  unfold execLatchTimerExpiry
  split
  next => exact h.ends (((CopiesKept.refl s).reach _).talkEvent _)
  next => exact h.stays

theorem execLineFaultRestartExpiry_endsAgreed (h : s.gpioAgrees) (loop : LoopId) : EndsAgreed (execLineFaultRestartExpiry loop s) := by
  unfold execLineFaultRestartExpiry
  split
  next => exact h.ends (((CopiesKept.refl s).reach _).setLoop loop _)
  next => exact h.stays

theorem execStartingWaitExpiry_endsAgreed (h : s.gpioAgrees) (loop : LoopId) (lineHigh : Bool) :
    EndsAgreed (execStartingWaitExpiry loop lineHigh s) := by
  unfold execStartingWaitExpiry
  split
  next => exact h.ends (((CopiesKept.refl s).reach _).waitEnds loop _)
  next => exact h.ends (((CopiesKept.refl s).reach _).waitEnds loop _)
  next => exact h.stays

theorem execRateMarkMeasured_endsAgreed (h : s.gpioAgrees) (loop : LoopId) (clocks : Nat) :
    EndsAgreed (execRateMarkMeasured loop clocks s) := by
  unfold execRateMarkMeasured
  split
  next => exact h.stays
  next => exact h.ends ((CopiesKept.refl s).measured loop clocks)

theorem execRateSearchTimeout_endsAgreed (h : s.gpioAgrees) (loop : LoopId) : EndsAgreed (execRateSearchTimeout loop s) := by
  unfold execRateSearchTimeout
  split
  next => exact h.ends (((CopiesKept.refl s).reach _).searchFails loop _ _)
  next => exact h.stays

theorem execSearchRetryExpiry_endsAgreed (h : s.gpioAgrees) (loop : LoopId) : EndsAgreed (execSearchRetryExpiry loop s) := by
  unfold execSearchRetryExpiry
  split
  next => exact h.ends (((CopiesKept.refl s).reach _).setLoop loop _)
  next => exact h.stays

theorem execSearchIdleGuardMet_endsAgreed (h : s.gpioAgrees) (loop : LoopId) : EndsAgreed (execSearchIdleGuardMet loop s) := by
  unfold execSearchIdleGuardMet
  split
  next => exact h.ends ((CopiesKept.refl s).enterRunning loop)
  next => exact h.stays

theorem execGpiDebounceExpiry_endsAgreed (h : s.gpioAgrees) (input : GpiId) : EndsAgreed (execGpiDebounceExpiry input s) := by
  unfold execGpiDebounceExpiry
  split
  next => exact h.stays
  next => exact h.ends (((CopiesKept.refl s).reach _).debounceExpires input)

theorem execStartScanComplete_endsAgreed (h : s.gpioAgrees) : EndsAgreed (execStartScanComplete s) := by
  unfold execStartScanComplete
  split
  next => exact h.ends (CopiesKept.refl s).scanEnds
  next => exact h.stays

/-- Every row of the table. -/
theorem exec_endsAgreed (h : s.gpioAgrees) (i : Instr) : EndsAgreed (exec i s) := by
  have kept : CopiesKept s s := .refl s
  cases i with
  | hardReset => exact execHardReset_endsAgreed s
  | clFrameReceived kind tag body => exact h.ends (kept.linkWhole kind tag body)
  | clFrameDiscarded byte | clByteReceived byte => exact h.ends (kept.linkByte byte)
  | clGapTimeout => exact execClGapTimeout_endsAgreed h
  | clTransmitComplete => exact h.ends kept.linkSent
  | setClass | setCamera | setInput | setDest | setThreshold | setLoop | setKeymap | setSlots | setGroup | setIfb | setLatch | setGpi
  | setGpo | setFilter | take | lock | unlock | talk | salvoWrite | salvoErase | salvoRecall | salvoBoot | loopRestart | restart
  | readTally | readDest | readRoster | readTalks | readListener | readSalvo | readStatus => exact h.ends (kept.arrive _ _)
  | mixerStageRecord port tag record => exact h.ends (kept.mixerWhole port _ tag _)
  | mixerKeepRecord port tag => exact h.ends (kept.mixerWhole port _ tag _)
  | mixerFrameDiscarded port byte | mixerByteReceived port byte => exact h.ends (kept.mixerByte port byte)
  | mixerGapTimeout port => exact execMixerGapTimeout_endsAgreed h port
  | mixerStaleTimeout port => exact execMixerStaleTimeout_endsAgreed h port
  | computationComplete production => exact execComputationComplete_endsAgreed h production
  | framePulse => exact (pulse_gpioAgrees h).settles
  | frameLossTimeout => exact execFrameLossTimeout_endsAgreed h
  | freeRunPeriodExpiry => exact execFreeRunPeriodExpiry_endsAgreed h
  | fabricRecordSent => exact h.ends kept.recordSent
  | xecho dest actual sequence => exact h.ends (kept.wholeRecord _)
  | aack port => exact h.ends (kept.wholeRecord _)
  | present card kind => exact h.ends (kept.wholeRecord _)
  | fabricStrayRecord bytes => exact execFabricStrayRecord_endsAgreed h bytes
  | fabricReplyTimeout card => exact execFabricReplyTimeout_endsAgreed h card
  | probeTimerExpiry card => exact execProbeTimerExpiry_endsAgreed h card
  | poll loop | enrol loop | stateQuery loop => exact h.ends (kept.beginIf loop _)
  | loopMessageSent loop | loopReplyStartBit loop | loopBreakSent loop => exact h.ends (kept.setLoop loop _)
  | loopReplyWindowTimeout loop => exact execLoopReplyWindowTimeout_endsAgreed h loop
  | loopReplyGapTimeout loop => exact execLoopReplyGapTimeout_endsAgreed h loop
  | loopReplyDiscarded loop char | loopStrayCharacter loop char | loopReplyCharacter loop char => exact h.ends (kept.takeChar loop char)
  | ident loop | keys loop | stateReply loop | hold loop | quiet loop => exact h.ends (kept.takeReply loop _)
  | rosterHoldExpiry panel => exact execRosterHoldExpiry_endsAgreed h panel
  | lockDeadlineExpiry panel => exact execLockDeadlineExpiry_endsAgreed h panel
  | latchTimerExpiry panel key => exact execLatchTimerExpiry_endsAgreed h panel key
  | longBreak loop => exact h.ends (kept.longBreak loop)
  | lineFaultRestartExpiry loop => exact execLineFaultRestartExpiry_endsAgreed h loop
  | startingWaitExpiry loop lineHigh => exact execStartingWaitExpiry_endsAgreed h loop lineHigh
  | rateMarkMeasured loop clocks => exact execRateMarkMeasured_endsAgreed h loop clocks
  | rateSearchTimeout loop => exact execRateSearchTimeout_endsAgreed h loop
  | searchRetryExpiry loop => exact execSearchRetryExpiry_endsAgreed h loop
  | searchIdleGuardMet loop => exact execSearchIdleGuardMet_endsAgreed h loop
  | gpiRawChange input => exact h.ends (kept.rawChange input)
  | gpiDebounceExpiry input => exact execGpiDebounceExpiry_endsAgreed h input
  | programmingComplete agrees => exact h.ends (kept.programmed agrees)
  | startScanComplete => exact execStartScanComplete_endsAgreed h

/-- A step keeps the copies and the outputs in agreement: its command's row does, and a reference clock of an idle block moves nothing. -/
theorem step_endsAgreed (h : s.gpioAgrees) : EndsAgreed (step s) := by
  unfold step
  split
  next c rest _ =>
    have htaken : CopiesKept s { s with pending := rest } := (CopiesKept.refl s).alike { Alike.refl s with gpio := rfl }
    exact exec_endsAgreed (h.kept htaken) c
  next =>
    have hticked : CopiesKept s { s with clock := s.clock + 1 } := (CopiesKept.refl s).alike { Alike.refl s with gpio := rfl }
    exact (h.kept hticked).stays

end rows

/-! ## What the conditions say of their owners (R171) -/

theorem Tbl.any_cells_iff {n : Nat} {α : Type} (t : Tbl n α) (f : α → Bool) : t.cells.any f = true ↔ ∃ i, f (t.get i) = true := by
  rw [List.any_eq_true]
  constructor
  · rintro ⟨a, ha, hf⟩
    obtain ⟨i, hi, rfl⟩ := List.getElem_of_mem ha
    exact ⟨⟨i, t.size ▸ hi⟩, hf⟩
  · rintro ⟨i, hf⟩
    exact ⟨t.get i, List.getElem_mem _, hf⟩

theorem Talk.talking_iff (t : Talk) (p : PortId) :
    t.talking p = true ↔ ∃ n, ∃ e ∈ (t.listeners.get n).talkers, e.talker = p ∧ ∃ id, .talk id ∈ e.causes := by
  have hcause (c : Cause) : (match c with | .talk _ => true | _ => false) = true ↔ ∃ id, c = .talk id := by cases c <;> simp
  unfold Talk.talking
  rw [Tbl.any_cells_iff]
  simp only [List.any_eq_true, Bool.and_eq_true, beq_iff_eq]
  refine exists_congr fun n => exists_congr fun e => and_congr_right fun _ => and_congr_right fun _ => ?_
  constructor
  · rintro ⟨c, hc, htalk⟩
    obtain ⟨id, rfl⟩ := (hcause c).mp htalk
    exact ⟨id, hc⟩
  · rintro ⟨id, hid⟩
    exact ⟨.talk id, hid, rfl⟩

/-- The combined view takes RED above GREEN above AMBER above NONE (R85). -/
theorem Colour.higher_eq (x y : Colour) :
    x.higher y = if x = .red ∨ y = .red then .red else if x = .green ∨ y = .green then .green
      else if x = .amber ∨ y = .amber then .amber else .none := by
  cases x <;> cases y <;> rfl

/-- Settles O20: each row is composed of operations that keep the agreement, or changes an owner and tells the unit. -/
theorem outputsFollowTheirConditions : Obligations.OutputsFollowTheirConditions := by
  refine ⟨fun s t h hstep => step_endsAgreed h t hstep, ?_⟩
  intro s h o x within inA inB
  have hactive : x.active = s.gpio.holds x.mapping := h.outputs o
  have hwithin (c : Colour) (cs : ColourSet) : cs.has c = true ↔ within c cs := by cases c <;> exact Iff.rfl
  rw [hactive]
  generalize x.mapping = m
  cases m with
  | unmapped => exact Bool.false_eq_true.to_iff
  | tally y cs v =>
    cases v with
    | a =>
      show cs.has ((s.gpio.colours.get .a).get y) = true ↔ _
      rw [h.colours]
      exact hwithin _ cs
    | b =>
      show cs.has ((s.gpio.colours.get .b).get y) = true ↔ _
      rw [h.colours]
      exact hwithin _ cs
    | both =>
      show cs.has (s.gpio.combined.get y) = true ↔ _
      rw [h.combined, State.combinedColour, Colour.higher_eq]
      exact hwithin _ cs
  | talking p =>
    show s.gpio.talking.get p = true ↔ _
    rw [h.talking]
    exact s.talk.talking_iff p
  | fault =>
    show (s.gpio.faulted.cells.any id || s.gpio.absent.cells.any id) = true ↔ _
    rw [Bool.or_eq_true, Tbl.any_cells_iff, Tbl.any_cells_iff]
    exact or_congr (exists_congr h.faulted) (exists_congr h.absent)
  | freeRun => exact h.freeRun

end Sys2Proof.Machine

/-! SUPPORT. SET_LATCH (R149) and SET_FILTER (R198): the clamp of a latch window, the sets of the thirteen notice kinds, the notices that a
filter lets pass (R194), and the transmitter that takes up the notice queue (R197). -/

namespace Sys2Proof.Machine

/-! ## Latch windows (R149) -/

/-- The clamp by comparisons, as R149 words it. -/
theorem clampLatch_eq (n : Nat) : clampLatch n = (if n < 100 then 100 else if 1000 < n then 1000 else n) / 50 * 50 := by
  have hclamp : max 100 (min n 1000) = if n < 100 then 100 else if 1000 < n then 1000 else n := by
    split
    · omega
    · split <;> omega
  rw [clampLatch, hclamp]

/-! ## Kind sets and the filter (R194, R198) -/

/-- A set shifted down by `n` is empty where no bit from `n` on is set. -/
theorem ushiftRight_eq_zero_iff {w : Nat} (x : BitVec w) (n : Nat) : x >>> n = 0 ↔ ∀ k, n ≤ k → x.getLsbD k = false := by
  constructor
  · intro h k hk
    have hbit : (x >>> n).getLsbD (k - n) = false := by simp [h]
    rwa [BitVec.getLsbD_ushiftRight, Nat.add_sub_cancel' hk] at hbit
  · intro h
    apply BitVec.eq_of_getLsbD_eq
    intro i _
    rw [BitVec.getLsbD_ushiftRight, h (n + i) (Nat.le_add_right n i), BitVec.ofNat_eq_ofNat, BitVec.getLsbD_zero]

/-- A notice passes where the filter names its kind; GAP and the TALK notices of LINK records pass any filter (R194). -/
theorem passesFilter_iff (filter : BitVec 16) (n : Notice) :
    passesFilter filter n = true ↔ filter.getLsbD n.kind.code = true ∨ n.kind = .gap ∨ ∃ items, n = .talk true items := by
  cases n with
  | gap => simp [passesFilter, Notice.kind]
  | talk link items => cases link <;> simp [passesFilter, inKinds, Notice.kind]
  | _ => simp [passesFilter, inKinds, Notice.kind]

/-- A set of the thirteen kinds is written, and shown with GAP (R198). -/
theorem serveSetFilter_of_kinds {kinds : BitVec 16} (h : ∀ k, 13 ≤ k → kinds.getLsbD k = false) (s : State) :
    serveSetFilter kinds s = (s.onLink fun l => { l with filter := kinds }, ⟨.done, kindsBytes (shownFilter kinds)⟩) :=
  if_neg (not_not_intro ((ushiftRight_eq_zero_iff kinds 13).mpr h))

/-- A set with a bit beyond the thirteen kinds is refused (R198). -/
theorem serveSetFilter_of_excess {kinds : BitVec 16} (h : ∃ k, 13 ≤ k ∧ kinds.getLsbD k = true) (s : State) :
    serveSetFilter kinds s = (s, refused .range) := by
  obtain ⟨k, hk, hbit⟩ := h
  refine if_pos fun hzero => ?_
  rw [(ushiftRight_eq_zero_iff kinds 13).mp hzero k hk] at hbit
  contradiction

/-! ## The queued notices (R197) -/

@[simp] theorem Link.gainRoom_sending (l : Link) : l.gainRoom.sending = l.sending := by unfold Link.gainRoom; split <;> rfl
@[simp] theorem Link.gainRoom_requests (l : Link) : l.gainRoom.requests = l.requests := by unfold Link.gainRoom; split <;> rfl

/-- With nothing before it, the first notice of the queue is begun, whatever the filter (R197). -/
theorem Link.choose_of_notice {l : Link} {q : QueuedNotice} {qs : List QueuedNotice} (h : l.sending = none) (hr : l.replies = [])
    (hs : l.serving = false) (hc : l.continuation = none) (hn : l.notices = q :: qs) :
    l.choose =
      ({ l with
          notices := qs
          sending := some (partFrame q.notice.kindByte q.number 0 q.notice.fields)
          continuation := partRest q.notice.kindByte q.number 0 q.notice.fields } : Link).gainRoom := by
  simp [Link.choose, h, hr, hs, hc, hn]

/-- Without requests there is nothing to serve. -/
theorem State.pump_of_noRequests {s : State} (h : s.link.requests = []) : s.pump = s := by
  rw [State.pump, h, List.length_nil, State.pumpFor]

/-- What ends every step leaves the link. -/
@[simp] theorem State.settle_link (s : State) : s.settle.link = s.link := rfl

/-- The end of a transmission where no request waits: the transmitter chooses its next frame (R197). -/
theorem exec_clTransmitComplete_link {s : State} (h : s.link.sending.isSome)
    (hr : ({ s.link with sending := none } : Link).choose.requests = []) :
    ∃ t, exec .clTransmitComplete s = .next t ∧ t.link = ({ s.link with sending := none } : Link).choose := by
  refine ⟨s.linkSent.settle, rfl, ?_⟩
  rw [State.settle_link, State.linkSent, if_pos h, State.pump_of_noRequests hr]
  rfl

/-! ## The rows on a quiet link -/

/-- SET_LATCH writes the clamped window and answers it (R149). -/
theorem exec_setLatch_of_quiet {s : State} (hq : s.link.quiet) (tag window : Nat) :
    exec (.setLatch tag window) s = .next (State.settle
      { s with
        talk := { s.talk with latchWindow := clampLatch window }
        link := s.link.served [] tag (.setLatch window) .done (word16 (clampLatch window)) }) :=
  ended_arrive_quiet (t := { s with talk := { s.talk with latchWindow := clampLatch window } }) (r := .setLatch window) hq nofun tag []
    ⟨.done, word16 (clampLatch window)⟩ rfl

/-- SET_FILTER with a set of the thirteen kinds: the set is the filter by the time the reply is begun (R198). -/
theorem exec_setFilter_of_kinds {s : State} (hq : s.link.quiet) {kinds : BitVec 16} (h : ∀ k, 13 ≤ k → kinds.getLsbD k = false)
    (tag : Nat) :
    exec (.setFilter tag kinds) s = .next (State.settle
      { s with
        link := ({ s.link with filter := kinds } : Link).served [] tag (.setFilter kinds) .done (kindsBytes (shownFilter kinds)) }) := by
  have hwritten : ({ s.link with filter := kinds } : Link).quiet := hq
  show ended (s.arrive tag (.setFilter kinds)) = _
  rw [arrive_quiet (r := .setFilter kinds) hq nofun, serveRequest, serveSetFilter_of_kinds h,
    ← Link.answered_inService hwritten tag _ ⟨.done, _⟩]
  rfl

/-- SET_FILTER with any other set is refused RANGE (R198). -/
theorem exec_setFilter_of_excess {s : State} (hq : s.link.quiet) {kinds : BitVec 16} (h : ∃ k, 13 ≤ k ∧ kinds.getLsbD k = true)
    (tag : Nat) :
    AnswersOnly (.setFilter tag kinds) s tag (.setFilter kinds) .range [] :=
  ended_arrive_quiet (r := .setFilter kinds) hq nofun tag [] (refused .range) (serveSetFilter_of_excess h _)

/-- Settles O35: each request is served on a quiet link, and the filter stands in the test of `Link.notify` alone. -/
theorem plainSettingsAreWritten : Obligations.PlainSettingsAreWritten := by
  constructor
  · intro s tag window hq
    rw [← clampLatch_eq]
    exact exec_setLatch_of_quiet hq tag window
  · intro s tag kinds hq
    refine ⟨fun h => exec_setFilter_of_kinds hq h tag, fun h => exec_setFilter_of_excess hq h tag, ?_⟩
    intro l n hfilter passes
    have hpasses : passesFilter l.filter n = true ↔ passes := hfilter ▸ passesFilter_iff l.filter n
    refine ⟨fun h => if_pos (hpasses.mpr h), fun h => if_neg (mt hpasses.mp h), ?_⟩
    intro q qs _ hnotices busy
    obtain ⟨hrequests, hreplies, _, hserving⟩ := hq
    have hchosen := Link.choose_of_notice (l := { busy.link with sending := none }) rfl hreplies hserving rfl hnotices
    obtain ⟨t, ht, hlink⟩ := exec_clTransmitComplete_link (s := busy) rfl (by rw [hchosen, Link.gainRoom_requests]; exact hrequests)
    exact ⟨t, _, ht, by rw [hlink, hchosen, Link.gainRoom_sending], rfl, rfl⟩

end Sys2Proof.Machine
